-- ==== Sys2Proof/Word.lean ====
section
/-! DEFINITION. The words of the MZ-5120: bytes, the wider numbers of its formats, ticks, and the four lines.
Chapter 12 sends every multi-byte number high byte first; the conversions stand in Machine/Operands.lean. -/

namespace Sys2Proof

/-- One byte of a transaction, of a frame or of a value. -/
abbrev Byte := BitVec 8

/-- A two-byte number (limits, periods, durations, counters). -/
abbrev Half := BitVec 16

/-- A three-byte number as it is clocked in (identifiers and masks, of which 20 bits are used). -/
abbrev Tri := BitVec 24

/-- A point identifier, 0 to 1,048,575 (R12), and a mask over identifiers (R27). -/
abbrev Ident := BitVec 20

/-- The levels of a line over one character time (R62): eleven bit times, bit 0 the first of them; a set bit is the idle level. -/
abbrev WireChar := BitVec 11

/-- A tick, 0 to 2^32 - 1, wrapping (R116). -/
abbrev Tick := BitVec 32

/-- The field lines LINE 0 to LINE 3. -/
abbrev LineId := Fin 4

/-- A subset of the four lines: bit n stands for line n (R182). -/
abbrev LineSet := BitVec 4

end Sys2Proof
end

