-- ==== Sys2Proof/Syntax.lean ====
section
/-! DEFINITION. The commands of the MZ-5120: one constructor for each row of spec/opcode_table.json.
The arguments of a host command stand as they are clocked in (R182): numbers of the width of their field,
assigned or not, so that the port's own check (R144) is part of the meaning. An event on a line names its line. -/

namespace Sys2Proof

/-- A handle as clocked in (R182): slot, two bytes, and generation. -/
structure HandleArg where
  slot : Half
  gen : Byte
  deriving DecidableEq, Repr

/-- A key as clocked in (R182): line byte, identifier, selector length, selector value. -/
structure KeyArg where
  line : Byte
  ident : Tri
  selLen : Byte
  selVal : Half
  deriving DecidableEq, Repr

/-- A value as clocked in (R182): a length byte and eight data bytes. -/
structure ValueArg where
  len : Byte
  d0 : Byte
  d1 : Byte
  d2 : Byte
  d3 : Byte
  d4 : Byte
  d5 : Byte
  d6 : Byte
  d7 : Byte
  deriving DecidableEq, Repr

/-- The policy arguments that CREATE and MODIFY share, in their order (R182). -/
structure PolicyArg where
  limit : Half
  owner : Byte
  updateNotice : Byte
  edgeNotice : Byte
  period : Half
  lineSet : Byte
  priority : Byte
  deriving DecidableEq, Repr

/-- The arguments of SET_CLASS, in their order (R182). -/
structure ClassArg where
  number : Byte
  enabled : Byte
  lineSet : Byte
  compare : Tri
  maskNumber : Byte
  selLen : Byte
  disposition : Byte
  limit : Half
  updateNotice : Byte
  edgeNotice : Byte
  announce : Byte
  lockToOrigin : Byte
  deriving DecidableEq, Repr

/-- The arguments of SET_LINE: the line, then the settings in the order of R59 (R182). -/
structure LineArg where
  line : Byte
  rate : Byte
  node : Byte
  gap : Byte
  flow : Byte
  high : Byte
  low : Byte
  timeout : Byte
  flushOnEnable : Byte
  flushOnDisable : Byte
  wake : Byte
  replyPriority : Byte
  enabled : Byte
  deriving DecidableEq, Repr

/-- The seven routes of SET_ROUTES, in the order of status word byte 3 (R182). -/
structure RoutesArg where
  lineOverrun : Byte
  lineCollision : Byte
  noticeOverflow : Byte
  sweepOverrun : Byte
  faultCorrected : Byte
  faultUncorrectable : Byte
  wake : Byte
  deriving DecidableEq, Repr

/-- The commands of the block, one for each row of spec/opcode_table.json, in the table's order. -/
inductive Instr where
  -- resets and upsets
  | powerOnReset
  | pinReset
  | resetNRelease
  | startupComplete
  | upset (slot : Nat)
  -- transactions of the port
  | status (count : Nat)
  | result (count : Nat)
  | discardedTransaction (clocked : List Byte) (strayBits : Nat)
  -- table commands
  | tableCommandOperation
  | create (region : Byte) (key : KeyArg) (policy : PolicyArg)
  | find (key : KeyArg)
  | read (handle : HandleArg)
  | write (handle : HandleArg) (value : ValueArg) (publishNow : Byte)
  | modify (handle : HandleArg) (policy : PolicyArg)
  | retire (handle : HandleArg)
  | hold (handle : HandleArg) (limit : Byte)
  | release (handle : HandleArg) (choice : Byte)
  | setLayout (bound learned exported : Half)
  | purge (regions line filter faultedToo : Byte)
  | purgeVisit
  -- commands of the class store and of the arbiter
  | setClass (fields : ClassArg)
  | setMask (number : Byte) (mask : Tri)
  | readClass (copy number : Byte)
  | commitClasses
  | setShares (fieldShare sweepShare : Byte)
  -- commands of the line blocks
  | setLine (fields : LineArg)
  | readLine (line : Byte)
  | readCounters (line clear : Byte)
  | lineHold (line : Byte) (duration : Half) (restart : Byte)
  | lineAbort (line : Byte)
  -- commands of the tick, notice and condition units
  | setTiming (period : Byte) (expiry : Half)
  | readTiming
  | popNotice
  | scanMissed (start : Half)
  | setNotice (threshold holdOff : Byte)
  | setRoutes (routes : RoutesArg)
  | clearConditions (flags : Byte)
  | readFault
  | clearFault
  -- modes
  | requestMode (target : Byte)
  | reset
  | softReset
  | immediateTransition
  | drainStart
  | drainEnd
  | wakeEvent (line : LineId)
  | resumeComplete
  -- ticks and grants of the arbiter
  | tick
  | sweepVisit
  | update (line : LineId)
  | query (line : LineId)
  | withdraw (line : LineId)
  | restartPurge (line : LineId)
  | noticeHoldOffExpiry
  -- events on the lines
  | dataFrameDelivery (line : LineId)
  | pause (line : LineId)
  | resume (line : LineId)
  | pauseDeadlineExpiry (line : LineId)
  /-- The levels of the character heard (R62). -/
  | badFrame (line : LineId) (heard : WireChar)
  | truncatedFrame (line : LineId)
  | overlongFrame (line : LineId)
  /-- BREAK. -/
  | lineBreak (line : LineId)
  | receiverIdleGap (line : LineId)
  | frameStart (line : LineId)
  | frameSent (line : LineId)
  | collision (line : LineId)
  | backoffRetry (line : LineId)
  | lineHoldEnd (line : LineId)
  /-- The levels of the character heard (R62). -/
  | characterReceived (line : LineId) (heard : WireChar)
  deriving DecidableEq, Repr

end Sys2Proof
end

