-- ==== Sys2Proof/Machine/State.lean ====
section
/-! DEFINITION. The state of the MZ-5120 as plain data, and the state right after a power-on reset.
Every type follows the table of spec/ that its docstring names. Nothing here computes: the operations stand in Machine/Ops.lean. -/

namespace Sys2Proof.Machine

/-- No command of the block ends in a fault: memory faults are events the block handles itself (R52 to R58). -/
inductive Fault
  deriving DecidableEq, Repr

/-- The ways a command can be refused by the model. -/
inductive Refusal where
  /-- The command has no meaning in this model. Raised by no arm of `exec`. Safe: a run that meets it stops. -/
  | notModelled (mnemonic : String)
  deriving DecidableEq, Repr

/-! ## Records (chapter 1) -/

/-- The record states of R7. -/
inductive RecState where
  | empty | new | fresh | stale | faulted
  deriving DecidableEq, Repr

/-- The kinds of record (R2); an EMPTY slot has none. `exported` is EXPORT. -/
inductive Kind where
  | bound | learned | exported
  deriving DecidableEq, Repr

/-- When an applied update posts CHANGED (R3): NONE, CHANGE or EVERY. -/
inductive UpdateNotice where
  | never | change | every
  deriving DecidableEq, Repr

/-- Who set a record's value last (R3). -/
inductive Source where
  | absent | host | node (address : Byte)
  deriving DecidableEq, Repr

/-- The integrity of a body in record memory (R52). -/
inductive Integrity where
  | clean | single | double
  deriving DecidableEq, Repr

/-- A key (R12); line `none` is ANY. -/
structure Key where
  line : Option LineId
  ident : Ident
  selLen : Fin 17
  selVal : Half
  deriving DecidableEq, Repr

/-- A handle: a slot and a generation taken together (R11). -/
structure Handle where
  slot : Nat
  gen : Byte
  deriving DecidableEq, Repr

/-- A record body (R3 to R5). The learned and the export fields are 0 in records of another kind (R6). -/
structure Body where
  value : Option (List Byte)
  stamp : Tick
  limit : Half
  source : Source
  owner : Option Byte
  count : Byte
  updateNotice : UpdateNotice
  edge : Bool
  originNode : Byte
  originLine : LineId
  creatingClass : Fin 16
  period : Half
  lineSet : LineSet
  priority : Fin 4
  nextDue : Tick
  deriving DecidableEq, Repr

/-- The clean body of an EMPTY slot (R6). -/
def Body.empty : Body :=
  { value := none, stamp := 0, limit := 0, source := .absent, owner := none, count := 0, updateNotice := .never,
    edge := false, originNode := 0, originLine := 0, creatingClass := 0, period := 0, lineSet := 0, priority := 0,
    nextDue := 0 }

/-- One slot of the table: its directory entry (R2), its body (R3) and the integrity of that body (R52). -/
structure Slot where
  state : RecState
  kind : Option Kind
  gen : Byte
  key : Option Key
  held : Bool
  expiredHold : Bool
  missed : Bool
  body : Body
  integrity : Integrity
  deriving DecidableEq, Repr

/-- A slot after table initialization (R22). -/
def Slot.reset : Slot :=
  { state := .empty, kind := none, gen := 0, key := none, held := false, expiredHold := false, missed := false,
    body := .empty, integrity := .clean }

/-- The sizes of the bound, learned and export regions (R14). -/
structure Layout where
  b : Nat
  l : Nat
  e : Nat
  deriving DecidableEq, Repr

/-! ## Acceptance classes (chapter 2) -/

/-- What a class does with a frame that matches it (R25). -/
inductive Disposition where
  | bind | learn | drop
  deriving DecidableEq, Repr

/-- One acceptance class (R25, R26). -/
structure AccClass where
  enabled : Bool
  lines : LineSet
  compare : Ident
  mask : Fin 4
  selLen : Fin 17
  disposition : Disposition
  limit : Half
  updateNotice : UpdateNotice
  edge : Bool
  announce : Bool
  lockToOrigin : Bool
  deriving DecidableEq, Repr

/-- One copy of the class set: sixteen classes and four masks (R24). -/
structure ClassSet where
  classes : Vector AccClass 16
  masks : Vector Ident 4
  deriving DecidableEq, Repr

/-- A class after power-on and pin reset (R41). -/
def AccClass.reset : AccClass :=
  { enabled := false, lines := 0xF, compare := 0, mask := 0, selLen := 0, disposition := .drop, limit := 0,
    updateNotice := .never, edge := false, announce := false, lockToOrigin := false }

/-- A class set after power-on and pin reset (R41). -/
def ClassSet.reset : ClassSet :=
  { classes := Vector.replicate 16 AccClass.reset, masks := Vector.replicate 4 0xFFFFF }

/-! ## Holds and the sweep (chapters 7 and 9) -/

/-- An update kept for a held record (R93, R154). -/
structure PendingUpdate where
  value : List Byte
  source : Byte
  stamp : Tick
  deriving DecidableEq, Repr

/-- An entry of the hold list (R154). -/
structure HoldEntry where
  slot : Nat
  gen : Byte
  start : Tick
  limit : Byte
  update : Option PendingUpdate
  superseded : Byte
  deriving DecidableEq, Repr

/-- A sweep in flight: its sweep now (R121) and the slot its next visit reaches (R46). -/
structure Sweep where
  now : Tick
  pos : Nat
  deriving DecidableEq, Repr

/-- A PURGE under way: the slot its next visit reaches and the records retired so far (R20). -/
structure PurgeRun where
  pos : Nat
  retired : Nat
  deriving DecidableEq, Repr

/-- The engine arbiter: the two shares and three counters (R48). -/
structure Arbiter where
  fieldShare : Nat
  sweepShare : Nat
  run : Nat
  pointer : LineId
  sweepWait : Nat
  deriving DecidableEq, Repr

/-- The arbiter after power-on and pin reset (R48). -/
def Arbiter.reset : Arbiter := { fieldShare := 4, sweepShare := 32, run := 0, pointer := 3, sweepWait := 0 }

/-! ## Field lines (chapters 4 and 8) -/

/-- The line rates of R59, in bit/s. -/
inductive Rate where
  | b9600 | b19200 | b38400 | b57600 | b115200 | b230400 | b460800
  deriving DecidableEq, Repr

/-- The settings of a line (R59). -/
structure LineSettings where
  rate : Rate
  node : Byte
  gap : Fin 16
  flow : Bool
  high : Nat
  low : Nat
  timeout : Byte
  flushOnEnable : Bool
  flushOnDisable : Bool
  wake : Bool
  replyPriority : Fin 4
  enabled : Bool
  deriving DecidableEq, Repr

/-- A line's settings after power-on and pin reset (R59). -/
def LineSettings.reset : LineSettings :=
  { rate := .b19200, node := 126, gap := 2, flow := false, high := 6, low := 2, timeout := 50, flushOnEnable := true,
    flushOnDisable := false, wake := false, replyPriority := 3, enabled := false }

/-- The kinds of point frame (R179). -/
inductive FrameKind where
  | update | query | withdraw | pause | resume | reply | replyStale
  deriving DecidableEq, Repr

/-- A frame that a receiver has judged good, and an entry of a receive queue (R68). Its arrival line is the line that holds it. -/
structure RxFrame where
  kind : FrameKind
  source : Byte
  ident : Ident
  payload : List Byte
  deriving DecidableEq, Repr

/-- The states of a line receiver (R63). -/
inductive Rx where
  | stopped | waiting | ready
  | assembling (chars : List Byte)
  | complete (frame : RxFrame)
  | discarding | echo
  deriving DecidableEq, Repr

/-- The part's own flow control requests (R69). -/
inductive Control where
  | pause | resume
  deriving DecidableEq, Repr

/-- What an entry of the data part is (R129). -/
inductive DataItem where
  | publish (handle : Handle)
  | reply (stale : Bool) (ident : Ident)
  deriving DecidableEq, Repr

/-- An entry of the data part of a transmit queue (R129). Its join order is its place in the list. -/
structure DataEntry where
  item : DataItem
  priority : Fin 4
  snapshot : List Byte
  deriving DecidableEq, Repr

/-- What a frame in flight was made from (R73). -/
inductive FlightItem where
  | control (c : Control)
  | data (item : DataItem)
  deriving DecidableEq, Repr

/-- A frame in flight (R73 to R75): its bytes with their CRC, its collision count, whether it is being sent (or waits in
backoff), and how many of its characters have been compared with the echo. -/
structure Flight where
  item : FlightItem
  bytes : List Byte
  collisions : Nat
  sending : Bool
  echoed : Nat
  deriving DecidableEq, Repr

/-- The hold states of a line (R78): WAITING keeps the duration commanded, BREAKING the milliseconds left; 65,535 is continuous. -/
inductive LineHold where
  | off
  | waiting (duration : Half) (restart : Bool)
  | breaking (remaining : Half) (restart : Bool)
  deriving DecidableEq, Repr

/-- The eight counters of a line (R85). -/
structure Counters where
  framesTaken : Half
  badFrame : Half
  overrun : Half
  unclassed : Half
  refused : Half
  unanswered : Half
  collisions : Half
  skipped : Half
  deriving DecidableEq, Repr

/-- The counters after every reset (R85). -/
def Counters.zero : Counters :=
  { framesTaken := 0, badFrame := 0, overrun := 0, unclassed := 0, refused := 0, unanswered := 0, collisions := 0,
    skipped := 0 }

/-- One field line: receiver, queues, transmitter, pauses, hold and counters (chapter 4). -/
structure LineState where
  settings : LineSettings
  rx : Rx
  rxQueue : List RxFrame
  data : List DataEntry
  control : Option Control
  flight : Option Flight
  outstanding : Bool
  pauseSet : List (Byte × Tick)
  hold : LineHold
  restartRequest : Bool
  counters : Counters
  deriving DecidableEq, Repr

/-- A line with given settings after a reset (R87, R88). -/
def LineState.withSettings (settings : LineSettings) : LineState :=
  { settings := settings, rx := .stopped, rxQueue := [], data := [], control := none, flight := none,
    outstanding := false, pauseSet := [], hold := .off, restartRequest := false, counters := .zero }

/-! ## Notices, conditions, capture (chapter 10) -/

/-- Why a record was evicted (R159). -/
inductive Reason where
  | replaced | age | layout | lineRestart
  deriving DecidableEq, Repr

/-- The notice kinds, EVICTED with its reason (R159). -/
inductive NoticeKind where
  | changed | recovered | stale | created | holdExpired | faulted | withdrawn
  | evicted (reason : Reason)
  deriving DecidableEq, Repr

/-- An entry of the notice queue (R159), with the milliseconds it has waited since it joined. -/
structure Notice where
  handle : Handle
  kind : NoticeKind
  tick : Tick
  waited : Nat
  deriving DecidableEq, Repr

/-- The routes of a condition (R167). -/
inductive Route where
  | none | notice | alert
  deriving DecidableEq, Repr

/-- The seven routes (R167). -/
structure Routes where
  lineOverrun : Route
  lineCollision : Route
  noticeOverflow : Route
  sweepOverrun : Route
  faultCorrected : Route
  faultUncorrectable : Route
  wake : Route
  deriving DecidableEq, Repr

/-- The routes after power-on and pin reset (R167). -/
def Routes.reset : Routes :=
  { lineOverrun := .none, lineCollision := .none, noticeOverflow := .notice, sweepOverrun := .alert,
    faultCorrected := .none, faultUncorrectable := .alert, wake := .none }

/-- The seven condition flags (R166). -/
structure Conditions where
  lineOverrun : Bool
  lineCollision : Bool
  noticeOverflow : Bool
  sweepOverrun : Bool
  faultCorrected : Bool
  faultUncorrectable : Bool
  wake : Bool
  deriving DecidableEq, Repr

/-- The condition flags after every reset (R166). -/
def Conditions.clear : Conditions :=
  { lineOverrun := false, lineCollision := false, noticeOverflow := false, sweepOverrun := false,
    faultCorrected := false, faultUncorrectable := false, wake := false }

/-- The requester of the operation that found a fault (R169). -/
inductive FaultSource where
  | line (l : LineId) | command | sweep
  deriving DecidableEq, Repr

/-- The fault capture when it is filled (R169); `corrected` tells CORRECTED from UNCORRECTABLE. -/
structure Capture where
  corrected : Bool
  slot : Nat
  gen : Byte
  source : FaultSource
  tick : Tick
  overwritten : Bool
  deriving DecidableEq, Repr

/-! ## Modes and the command slot (chapters 9 and 11) -/

/-- The operating modes (R171). -/
inductive Mode where
  | starting | config | run | listen | standby
  deriving DecidableEq, Repr

/-- The kinds of transition in flight (R171). -/
inductive Transition where
  | drain | resume
  deriving DecidableEq, Repr

/-- The start-up state (R171). -/
inductive StartUp where
  | inProgress | complete
  deriving DecidableEq, Repr

/-- The result codes (R147, R181). `noResult` is NONE. -/
inductive ResultCode where
  | ok | wrongMode | badArgument | staleHandle | notFound | keyInUse | regionFull | alreadyHeld | holdLimit
  | notHeld | tooLate | faulted | layoutConflict | empty | noResult
  deriving DecidableEq, Repr

/-- The policy fields of CREATE and MODIFY after the port's check (R148, R152). Period, line set and priority stay as
clocked in where the port does not decode them (R182). -/
structure Policy where
  limit : Half
  owner : Option Byte
  updateNotice : UpdateNotice
  edge : Bool
  period : Half
  lineSet : Byte
  priority : Byte
  deriving DecidableEq, Repr

/-- The filters of a PURGE (R19); line `none` is ANY. -/
structure PurgeFilter where
  bound : Bool
  learned : Bool
  exported : Bool
  line : Option LineId
  staleOnly : Bool
  faultedToo : Bool
  deriving DecidableEq, Repr

/-- A command that can wait in the command slot, with its arguments as the port has decoded them: a table command (R44),
a mode request (R172) or a RESET (R178). Every other command completes as soon as it is taken (R144). -/
inductive HostCommand where
  | create (exported : Bool) (key : Key) (policy : Policy)
  | find (key : Key)
  | read (handle : Handle)
  | write (handle : Handle) (value : List Byte) (publishNow : Bool)
  | modify (handle : Handle) (policy : Policy)
  | retire (handle : Handle)
  | hold (handle : Handle) (limit : Byte)
  | release (handle : Handle) (apply : Bool)
  | setLayout (layout : Layout)
  | purge (filter : PurgeFilter)
  | requestMode (target : Mode)
  | reset
  deriving DecidableEq, Repr

/-- The command slot (R143). -/
inductive CommandSlot where
  | idle
  | pending (command : HostCommand)
  | done (code : ResultCode) (body : List Byte)
  deriving DecidableEq, Repr

/-! ## The whole state -/

/-- The state of the block. `pending`, `miso` and `freeCount` are the model's own fields (logs 1, 8 and 9); every other
field is state the spec names (INVENTORY.md lists the rule of each). -/
@[ext]
structure State where
  resetHeld : Bool
  mode : Mode
  target : Mode
  origin : Option Mode
  transition : Option Transition
  startup : StartUp
  slots : Vector Slot 512
  layout : Layout
  victim : Nat
  active : ClassSet
  staged : ClassSet
  commitRequested : Bool
  holds : List HoldEntry
  sweep : Option Sweep
  sweepOwed : Bool
  purge : Option PurgeRun
  arb : Arbiter
  lines : Vector LineState 4
  tick : Tick
  prescale : Nat
  tickPeriod : Nat
  learnedExpiry : Half
  notices : List Notice
  threshold : Nat
  holdOff : Nat
  conditions : Conditions
  routes : Routes
  capture : Option Capture
  slot : CommandSlot
  refused : Bool
  miso : List Byte
  freeCount : Nat
  pending : List Instr
  deriving DecidableEq, Repr

/-- The block right after a power-on reset (R177): in STARTING, every block at its power-on values, and no command waiting. -/
def State.reset : State :=
  { resetHeld := false, mode := .starting, target := .starting, origin := none, transition := none, startup := .inProgress,
    slots := Vector.replicate 512 Slot.reset, layout := { b := 384, l := 64, e := 64 }, victim := 384,
    active := .reset, staged := .reset, commitRequested := false, holds := [], sweep := none, sweepOwed := false,
    purge := none, arb := .reset, lines := Vector.replicate 4 (LineState.withSettings .reset),
    tick := 0, prescale := 0, tickPeriod := 10, learnedExpiry := 6000,
    notices := [], threshold := 1, holdOff := 0, conditions := .clear, routes := .reset, capture := none,
    slot := .idle, refused := false, miso := [], freeCount := 0, pending := [] }

/-- The outcome of a command of this block. -/
abbrev Answer := Host.Outcome State Fault Refusal

end Sys2Proof.Machine
end

