-- ==== Sys2Proof/Machine/Ops.lean ====
section
/-! DEFINITION. The named operations over the state that the meanings share: access to slots and lines, saturating
counts, ages and due times, conditions and the fault capture, the notice queue, the integrity check of a body read,
retirement, application of an update, publication, the flow control, and the command slot. -/

namespace Sys2Proof.Machine

/-! ## Counts and times -/

/-- An 8-bit count that saturates at 255 (R3, R154). -/
def sat8 (n : Byte) : Byte := if n = 255 then 255 else n + 1

/-- A 16-bit count that saturates at 65,535 (R85). -/
def sat16 (n : Half) : Half := if n = 65535 then 65535 else n + 1

/-- The age of a stamp at a reference tick: 0 when the stamp is later, judged as a signed difference modulo 2^32 (R117). -/
def age (stamp reference : Tick) : Nat := if (reference - stamp).msb then 0 else (reference - stamp).toNat

/-- A due time has come when the reference tick minus it, as a signed difference modulo 2^32, is not negative (R117). -/
def dueCome (due reference : Tick) : Bool := !(reference - due).msb

/-! ## Slots, lines, layout -/

/-- The slot at a slot number; past the table, a slot that holds nothing. -/
def State.slotAt (s : State) (i : Nat) : Slot := s.slots[i]?.getD Slot.reset

/-- Writes one slot; past the table, nothing. -/
def State.setSlot (i : Nat) (x : Slot) (s : State) : State := { s with slots := s.slots.setIfInBounds i x }

/-- Changes one slot. -/
def State.modifySlot (i : Nat) (f : Slot → Slot) (s : State) : State := s.setSlot i (f (s.slotAt i))

/-- Changes every slot of the table. -/
def State.mapSlots (f : Slot → Slot) (s : State) : State :=
  { s with slots := Vector.mk (Array.mk (s.slots.toList.map f)) (by simp) }

/-- The state of one line. -/
def State.line (s : State) (l : LineId) : LineState := s.lines.get l

/-- Writes the state of one line. -/
def State.setLine (l : LineId) (x : LineState) (s : State) : State := { s with lines := s.lines.set l.val x l.isLt }

/-- Changes the state of one line. -/
def State.modifyLine (l : LineId) (f : LineState → LineState) (s : State) : State := s.setLine l (f (s.line l))

/-- Changes all four lines, each by its number. -/
def State.mapLines (f : LineId → LineState → LineState) (s : State) : State :=
  { s with lines := #v[f 0 (s.line 0), f 1 (s.line 1), f 2 (s.line 2), f 3 (s.line 3)] }

/-- A slot is occupied in any state but EMPTY (R7). -/
def Slot.occupied (x : Slot) : Bool := x.state != .empty

/-- A slot whose key is seen by lookup, FIND and CREATE: occupied and not FAULTED (R9). -/
def Slot.visible (x : Slot) : Bool := x.state != .empty && x.state != .faulted

/-- The kind of record that the region of a slot holds (R14). -/
def Layout.kindAt (y : Layout) (i : Nat) : Kind :=
  if i < y.b then .bound else if i < y.b + y.l then .learned else .exported

/-- The slots of a region, in ascending order (R14). -/
def Layout.region (y : Layout) : Kind → List Nat
  | .bound => List.range' 0 y.b
  | .learned => List.range' y.b y.l
  | .exported => List.range' (y.b + y.l) y.e

/-- The handle of the record in a slot (R11). -/
def State.handleAt (s : State) (i : Nat) : Handle := { slot := i, gen := (s.slotAt i).gen }

/-- A handle is current while its slot is occupied and has its generation (R11). -/
def State.isCurrent (s : State) (h : Handle) : Bool := (s.slotAt h.slot).occupied && (s.slotAt h.slot).gen == h.gen

/-! ## Keys -/

/-- Two keys overlap when identifier, selector length and selector value are equal and their lines are equal or one is ANY (R13). -/
def Key.overlaps (a b : Key) : Bool :=
  a.ident == b.ident && a.selLen == b.selLen && a.selVal == b.selVal && (a.line == none || b.line == none || a.line == b.line)

/-- The record of a slot is one that lookup for a key finds: visible, with an overlapping key (R13, R32). -/
def Slot.matchesKey (k : Key) (x : Slot) : Bool :=
  x.visible && (match x.key with
    | some k' => k.overlaps k'
    | none => false)

/-- Lookup: the lowest slot whose record has a key that overlaps the given one (R32; R149 for several). -/
def State.lookup (s : State) (k : Key) : Option Nat :=
  (List.range 512).find? fun i => (s.slotAt i).matchesKey k

/-- How many records a key reaches (R149). -/
def State.overlapCount (s : State) (k : Key) : Nat :=
  (List.range 512).countP fun i => (s.slotAt i).matchesKey k

/-- The EMPTY slot with the lowest number in a region (R16, R107). -/
def State.firstEmpty (s : State) (kind : Kind) : Option Nat :=
  (s.layout.region kind).find? fun i => (s.slotAt i).state == .empty

/-! ## Counters, conditions, capture -/

/-- The names of the line counters (R85). -/
inductive Counter where
  | framesTaken | badFrame | overrun | unclassed | refused | unanswered | collisions | skipped
  deriving DecidableEq, Repr

/-- One event counted (R85). -/
def Counters.bump (c : Counter) (k : Counters) : Counters :=
  match c with
  | .framesTaken => { k with framesTaken := sat16 k.framesTaken }
  | .badFrame => { k with badFrame := sat16 k.badFrame }
  | .overrun => { k with overrun := sat16 k.overrun }
  | .unclassed => { k with unclassed := sat16 k.unclassed }
  | .refused => { k with refused := sat16 k.refused }
  | .unanswered => { k with unanswered := sat16 k.unanswered }
  | .collisions => { k with collisions := sat16 k.collisions }
  | .skipped => { k with skipped := sat16 k.skipped }

/-- One event counted on a line (R85). -/
def LineState.count (c : Counter) (ln : LineState) : LineState := { ln with counters := ln.counters.bump c }

/-- `n` events of one kind counted on a line. -/
def LineState.countTimes (c : Counter) : Nat → LineState → LineState
  | 0, ln => ln
  | n + 1, ln => LineState.countTimes c n (ln.count c)

/-- One event counted on a line of the part. -/
def State.count (l : LineId) (c : Counter) (s : State) : State := s.modifyLine l (·.count c)

/-- The names of the conditions (R166). -/
inductive Condition where
  | lineOverrun | lineCollision | noticeOverflow | sweepOverrun | faultCorrected | faultUncorrectable | wake
  deriving DecidableEq, Repr

/-- A condition event sets its flag (R166). -/
def Conditions.raise (c : Condition) (k : Conditions) : Conditions :=
  match c with
  | .lineOverrun => { k with lineOverrun := true }
  | .lineCollision => { k with lineCollision := true }
  | .noticeOverflow => { k with noticeOverflow := true }
  | .sweepOverrun => { k with sweepOverrun := true }
  | .faultCorrected => { k with faultCorrected := true }
  | .faultUncorrectable => { k with faultUncorrectable := true }
  | .wake => { k with wake := true }

/-- A condition event of the part (R166). -/
def State.raise (c : Condition) (s : State) : State := { s with conditions := s.conditions.raise c }

/-- How the capture judges an event (R169): an empty capture is filled; a CORRECTED capture is overwritten once by an
UNCORRECTABLE event; every other event leaves it. -/
def captureAfter (held : Option Capture) (event : Capture) : Option Capture :=
  match held with
  | none => some event
  | some c => if c.corrected && !event.corrected && !c.overwritten then some { event with overwritten := true } else some c

/-- A fault event found in a slot's body is offered to the capture, with the slot's generation and the current tick (R54, R55, R57). -/
def State.offerCapture (corrected : Bool) (source : FaultSource) (i : Nat) (s : State) : State :=
  let event : Capture :=
    { corrected := corrected, slot := i, gen := (s.slotAt i).gen, source := source, tick := s.tick, overwritten := false }
  { s with capture := captureAfter s.capture event }

/-! ## Notices -/

/-- The merge table: the kind of a pending entry after a posting for its handle (R162). -/
def mergeNotice (pending posted : NoticeKind) : NoticeKind :=
  match pending, posted with
  | .withdrawn, p => p
  | .evicted _, p => p
  | _, .withdrawn => .withdrawn
  | _, .evicted r => .evicted r
  | _, .created => .created
  | _, .faulted => .faulted
  | k, .changed => k
  | .stale, .recovered => .changed
  | k, .recovered => k
  | .created, .stale => .created
  | .holdExpired, .stale => .holdExpired
  | .faulted, .stale => .faulted
  | _, .stale => .stale
  | .created, .holdExpired => .created
  | .faulted, .holdExpired => .faulted
  | _, .holdExpired => .holdExpired

/-- The notice queue has an entry for a handle. -/
def State.hasNotice (s : State) (h : Handle) : Bool := s.notices.any fun e => e.handle == h

/-- A posting (R161): it merges into the entry for its handle, or joins the tail with the current tick, or is lost to a full
queue, and then the slot's missed mark and NOTICE_OVERFLOW are set. -/
def State.post (h : Handle) (k : NoticeKind) (s : State) : State :=
  if s.hasNotice h then
    { s with notices := s.notices.map fun e => if e.handle = h then { e with kind := mergeNotice e.kind k } else e }
  else if s.notices.length < 64 then
    { s with notices := s.notices ++ [{ handle := h, kind := k, tick := s.tick, waited := 0 }] }
  else
    (s.modifySlot h.slot fun x => { x with missed := true }).raise .noticeOverflow

/-- A posting that a policy may call for. -/
def State.postIf (c : Bool) (h : Handle) (k : NoticeKind) (s : State) : State := if c then s.post h k else s

/-! ## Holds, PUBLISH entries, retirement -/

/-- The hold entry of a slot (R154). -/
def State.holdOf (s : State) (i : Nat) : Option HoldEntry := s.holds.find? fun e => e.slot == i

/-- Removes the hold entry of a slot, with its pending update, and clears the held mark (R17, R55, R156, R157). -/
def State.dropHold (i : Nat) (s : State) : State :=
  { s with holds := s.holds.filter fun e => e.slot != i }.modifySlot i fun x => { x with held := false }

/-- Removes the PUBLISH entries that name a handle from one line's data part; nothing is counted (R136). -/
def LineState.dropPublish (h : Handle) (ln : LineState) : LineState :=
  { ln with data := ln.data.filter fun e => e.item != .publish h }

/-- Removes the PUBLISH entries that name a handle from every line (R136). -/
def State.dropPublish (h : Handle) (s : State) : State := s.mapLines fun _ ln => ln.dropPublish h

/-- What retirement leaves of a slot: EMPTY, no kind and no key, a clean body; the generation and the missed mark stay (R17). -/
def Slot.emptied (x : Slot) : Slot :=
  { x with state := .empty, kind := none, key := none, held := false, expiredHold := false, body := .empty, integrity := .clean }

/-- The common effects of retirement (R17, 1 to 6): slot, body, hold entry, PUBLISH entries. The notice is the caller's. -/
def State.retire (i : Nat) (s : State) : State :=
  ((s.dropHold i).dropPublish (s.handleAt i)).modifySlot i Slot.emptied

/-- Retirement with the notice of its cause (R17, 7). -/
def State.retireWith (k : NoticeKind) (i : Nat) (s : State) : State := (s.retire i).post (s.handleAt i) k

/-- Retires, in ascending slot order, every slot a test picks, each with the cause's notice (R15, R47). -/
def State.retireAll (pick : Slot → Bool) (k : NoticeKind) (s : State) : State :=
  (List.range 512).foldl (fun t i => if pick (t.slotAt i) then t.retireWith k i else t) s

/-! ## Memory integrity -/

/-- The steps by which a double error makes an occupied record FAULTED (R55). The body is left as it is. -/
def State.makeFaulted (source : FaultSource) (i : Nat) (s : State) : State :=
  (((((s.modifySlot i fun x => { x with state := .faulted }).dropHold i).dropPublish (s.handleAt i)).post
    (s.handleAt i) .faulted).raise .faultUncorrectable).offerCapture false source i

/-- The body read of an operation meets a double error. -/
def State.bodyLost (s : State) (i : Nat) : Bool := (s.slotAt i).integrity == .double

/-- The integrity check of a body read (R53): a single error is corrected and written back (R54), a double one in an EMPTY
slot is repaired (R57), a double one in an occupied slot makes the record FAULTED (R55). Reading is allowed in a slot that is not FAULTED. -/
def State.checkBody (source : FaultSource) (i : Nat) (s : State) : State :=
  match (s.slotAt i).integrity with
  | .clean => s
  | .single => ((s.modifySlot i fun x => { x with integrity := .clean }).raise .faultCorrected).offerCapture true source i
  | .double =>
    if (s.slotAt i).state = .empty then
      ((s.modifySlot i fun x => { x with body := .empty, integrity := .clean }).raise .faultUncorrectable).offerCapture false source i
    else s.makeFaulted source i

/-! ## Values -/

/-- The CHANGE test: an absent old value differs from every new one; otherwise length or some byte differs (R95). -/
def valueDiffers (old : Option (List Byte)) (new : List Byte) : Bool := old != some new

/-- Whether an applied update posts CHANGED (R95). -/
def UpdateNotice.asks (u : UpdateNotice) (old : Option (List Byte)) (new : List Byte) : Bool :=
  match u with
  | .never => false
  | .change => valueDiffers old new
  | .every => true

/-- The slot after an applied update (R94). -/
def Slot.updated (value : List Byte) (source : Byte) (stamp : Tick) (x : Slot) : Slot :=
  { x with
    state := .fresh
    integrity := .clean
    body := { x.body with value := some value, stamp := stamp, source := .node source, count := sat8 x.body.count } }

/-- An update is applied (R94) and posts its notices, RECOVERED before CHANGED, judged on the record as it stood (R95). -/
def State.applyUpdate (i : Nat) (value : List Byte) (source : Byte) (stamp : Tick) (s : State) : State :=
  let old := s.slotAt i
  ((s.setSlot i (old.updated value source stamp)).postIf (old.state == .stale && old.body.edge) (s.handleAt i) .recovered).postIf
    (old.body.updateNotice.asks old.body.value value) (s.handleAt i) .changed

/-- The pending update of a hold entry is applied, if there is one (R156, R157). -/
def State.applyPending (i : Nat) (update : Option PendingUpdate) (s : State) : State :=
  match update with
  | some u => s.applyUpdate i u.value u.source u.stamp
  | none => s

/-! ## Publication -/

/-- A line in a line set (R5). -/
def lineIn (set : LineSet) (l : LineId) : Bool := set.getLsbD l.val

/-- A line's data part holds a PUBLISH entry for a handle (R131). -/
def LineState.hasPublish (h : Handle) (ln : LineState) : Bool := ln.data.any fun e => e.item == .publish h

/-- A snapshot offered to one line's data part: coalesced, queued, or skipped (R131, R132). -/
def LineState.offerPublish (h : Handle) (priority : Fin 4) (snapshot : List Byte) (ln : LineState) : LineState :=
  if ln.hasPublish h then
    { ln with data := ln.data.map fun e => if e.item = .publish h then { e with snapshot := snapshot } else e }
  else if ln.data.length < 8 then
    { ln with data := ln.data ++ [{ item := .publish h, priority := priority, snapshot := snapshot }] }
  else ln.count .skipped

/-- A publication of the export record in a slot (R131): NEW or STALE is skipped on each line of its line set, FRESH is offered to each. -/
def State.publish (i : Nat) (s : State) : State :=
  let x := s.slotAt i
  s.mapLines fun l ln =>
    if lineIn x.body.lineSet l then
      if x.state = .fresh then ln.offerPublish (s.handleAt i) x.body.priority (x.body.value.getD []) else ln.count .skipped
    else ln

/-! ## Lines: activity, flow control, flushes -/

/-- RUN or LISTEN with no transition to CONFIG or STANDBY in flight (R59). -/
def State.running (s : State) : Bool := (s.mode == .run || s.mode == .listen) && s.transition == none

/-- A line is active while the part runs and its enabled setting is yes (R59). -/
def State.lineActive (s : State) (l : LineId) : Bool := s.running && (s.line l).settings.enabled

/-- The part drives a break on a line (R79). -/
def LineState.drivesBreak (ln : LineState) : Bool :=
  match ln.hold with
  | .breaking _ _ => true
  | _ => false

/-- The transmitter is sending its frame in flight (R74); in backoff it is not. -/
def LineState.isSending (ln : LineState) : Bool :=
  match ln.flight with
  | some f => f.sending
  | none => false

/-- The flow state is PAUSED (R69). -/
def LineState.flowPaused (ln : LineState) : Bool :=
  match ln.control, ln.flight with
  | some .pause, _ => true
  | some .resume, _ => false
  | none, some { item := .control .pause, .. } => true
  | none, some { item := .control .resume, .. } => false
  | none, _ => ln.outstanding

/-- The flow control of the part acts: RUN with no transition out of RUN in flight (R70). -/
def State.flowActs (s : State) : Bool := s.mode == .run && s.transition == none

/-- The flow control after a frame has joined the receive queue (R70). -/
def LineState.flowOnJoin (acts : Bool) (ln : LineState) : LineState :=
  if acts && ln.settings.flow && ln.settings.high ≤ ln.rxQueue.length && !ln.flowPaused then
    { ln with control := if ln.control = some .resume then none else some .pause }
  else ln

/-- The flow control after the receive queue's count has fallen (R70). -/
def LineState.flowOnFall (acts : Bool) (ln : LineState) : LineState :=
  if acts && ln.settings.flow && ln.rxQueue.length ≤ ln.settings.low && ln.flowPaused then
    { ln with control := if ln.control = some .pause then none else some .resume }
  else ln

/-- The flow control acts once more on the count as it stands, as though it had just changed (R70). The high mark lies
above the low mark (R59), so at most one of the two cases applies. -/
def LineState.flowAgain (acts : Bool) (ln : LineState) : LineState :=
  if ln.settings.high ≤ ln.rxQueue.length then ln.flowOnJoin acts else ln.flowOnFall acts

/-- A flush of both queues (R81, R82): nothing is counted, the outstanding mark clears, and the flow control acts on the
fall of the receive queue's count, if it fell, with the flow state the flush has left (DEDUCED, log 10). -/
def LineState.flush (acts : Bool) (ln : LineState) : LineState :=
  let emptied := { ln with rxQueue := [], data := [], control := none, outstanding := false }
  if ln.rxQueue = [] then emptied else emptied.flowOnFall acts

/-- The enable event of a line (R81). The receiver goes to WAITING, but for a break being driven, and, while the transmitter is
still sending, to ECHO (R67; DEDUCED, log 11). -/
def LineState.enableEvent (acts : Bool) (ln : LineState) : LineState :=
  let flushed := if ln.settings.flushOnEnable then ln.flush acts else ln
  { flushed with rx := if flushed.drivesBreak then .stopped else if flushed.isSending then .echo else .waiting }

/-- The disable event of a line (R82). -/
def LineState.disableEvent (acts : Bool) (ln : LineState) : LineState :=
  let stopped := { ln with rx := .stopped, pauseSet := [] }
  if ln.settings.flushOnDisable then stopped.flush acts else stopped

/-- The enable events on entering RUN or LISTEN: one for each line whose enabled setting is yes (R81, R173, R175). -/
def State.enableLines (s : State) : State :=
  s.mapLines fun _ ln => if ln.settings.enabled then ln.enableEvent s.flowActs else ln

/-- Data part and control entry emptied without counting, pause set emptied, outstanding mark cleared (R83). -/
def LineState.silence (ln : LineState) : LineState :=
  { ln with data := [], control := none, pauseSet := [], outstanding := false }

/-- A hold goes to BREAKING: the receiver stops, the pause set empties, the countdown starts (R79). -/
def LineState.startBreak (duration : Half) (restart : Bool) (ln : LineState) : LineState :=
  { ln with hold := .breaking duration restart, rx := .stopped, pauseSet := [] }

/-- A WAITING hold goes to BREAKING once its line has no frame in flight (R79). -/
def LineState.holdAfterFlight (ln : LineState) : LineState :=
  match ln.hold, ln.flight with
  | .waiting d r, none => ln.startBreak d r
  | _, _ => ln

/-- A BREAKING hold ends (R80): the receiver of an active line waits for idle, and the restart option makes a restart request. -/
def LineState.endBreak (active : Bool) (ln : LineState) : LineState :=
  match ln.hold with
  | .breaking _ restart =>
    { ln with hold := .off, rx := if active then .waiting else .stopped, restartRequest := ln.restartRequest || restart }
  | _ => ln

/-! ## Classes and sweeps -/

/-- Installation (R39): the staged set is copied over the active set and the mark clears. -/
def State.install (s : State) : State := { s with active := s.staged, commitRequested := false }

/-- A sweep starts (R121): sweep now, position 0, a requested installation, the sweep-wait count. -/
def State.startSweep (s : State) : State :=
  let t := if s.commitRequested then s.install else s
  { t with sweep := some { now := s.tick, pos := 0 }, arb := { t.arb with sweepWait := 0 } }

/-- A sweep is abandoned (R126). -/
def State.abandonSweep (s : State) : State :=
  { s with sweep := none, sweepOwed := false, arb := { s.arb with sweepWait := 0 } }

/-! ## The command slot -/

/-- A command completes: its result is stored and the slot is DONE (R143). -/
def State.complete (code : ResultCode) (body : List Byte) (s : State) : State := { s with slot := .done code body }

/-- The slot is PENDING (R143). -/
def CommandSlot.isPending : CommandSlot → Bool
  | .pending _ => true
  | _ => false

/-- An event of the block (log 1): while RESET_N is held low every block is held at its reset values (R177); otherwise the event has its effect. -/
def whilePowered (f : State → State) (s : State) : Answer := .next (if s.resetHeld then s else f s)

end Sys2Proof.Machine
end

