-- ==== Sys2Proof/Machine/Operands.lean ====
section
/-! DEFINITION. The encodings of chapter 12: how the port decodes the raw arguments of a command (R182; `none` is
BAD_ARGUMENT), and the images and bodies it clocks out (R182, R183). Every multi-byte number is high byte first. -/

namespace Sys2Proof.Machine

/-! ## Bytes of numbers, high byte first -/

/-- A number as one byte. -/
def byteOf (n : Nat) : Byte := BitVec.ofNat 8 n

/-- A two-byte number. -/
def halfBytes (h : Half) : List Byte := [h.extractLsb' 8 8, h.extractLsb' 0 8]

/-- A three-byte number. -/
def triBytes (t : Tri) : List Byte := [t.extractLsb' 16 8, t.extractLsb' 8 8, t.extractLsb' 0 8]

/-- A four-byte number. -/
def tickBytes (t : Tick) : List Byte := [t.extractLsb' 24 8, t.extractLsb' 16 8, t.extractLsb' 8 8, t.extractLsb' 0 8]

/-- A truth value as a byte: 0 no or off, 1 yes or on (R182). -/
def boolByte (b : Bool) : Byte := if b then 1 else 0

/-! ## Decoding single arguments (R182) -/

/-- Yes/no and on/off. -/
def decodeBool (b : Byte) : Option Bool := if b = 0 then some false else if b = 1 then some true else none

/-- A node address, 1 to 126 (R59). -/
def isNode (b : Byte) : Bool := 1 ≤ b.toNat && b.toNat ≤ 126

/-- An owner: 0 for absent, 1 to 126 (R182). -/
def decodeOwner (b : Byte) : Option (Option Byte) := if b = 0 then some none else if isNode b then some (some b) else none

/-- A line, 0 to 3. -/
def decodeLine (b : Byte) : Option LineId := if h : b.toNat < 4 then some ⟨b.toNat, h⟩ else none

/-- A line or ANY, coded 0xFF; the inner `none` is ANY. -/
def decodeLineOrAny (b : Byte) : Option (Option LineId) := if b = 0xFF then some none else (decodeLine b).map some

/-- A line set that names at least one line and none above 3. -/
def decodeLineSet (b : Byte) : Option LineSet :=
  if b.extractLsb' 4 4 = 0 && b.extractLsb' 0 4 != 0 then some (b.extractLsb' 0 4) else none

/-- A priority or a mask number, 0 to 3. -/
def decodeFin4 (b : Byte) : Option (Fin 4) := if h : b.toNat < 4 then some ⟨b.toNat, h⟩ else none

/-- A 4-bit number, 0 to 15: a class number or a turnaround gap. -/
def decodeFin16 (b : Byte) : Option (Fin 16) := if h : b.toNat < 16 then some ⟨b.toNat, h⟩ else none

/-- A selector length, 0 to 16. -/
def decodeSelLen (b : Byte) : Option (Fin 17) := if h : b.toNat < 17 then some ⟨b.toNat, h⟩ else none

/-- An identifier or a mask: three bytes whose bits 23 to 20 are zero. -/
def decodeIdent (t : Tri) : Option Ident := if t.extractLsb' 20 4 = 0 then some (t.extractLsb' 0 20) else none

/-- An update notice: 0 NONE, 1 CHANGE, 2 EVERY. -/
def decodeUpdateNotice (b : Byte) : Option UpdateNotice :=
  if b = 0 then some .never else if b = 1 then some .change else if b = 2 then some .every else none

/-- A disposition: 0 BIND, 1 LEARN, 2 DROP. -/
def decodeDisposition (b : Byte) : Option Disposition :=
  if b = 0 then some .bind else if b = 1 then some .learn else if b = 2 then some .drop else none

/-- A rate: 0 to 6. -/
def decodeRate (b : Byte) : Option Rate :=
  if b = 0 then some .b9600 else if b = 1 then some .b19200 else if b = 2 then some .b38400 else if b = 3 then some .b57600
  else if b = 4 then some .b115200 else if b = 5 then some .b230400 else if b = 6 then some .b460800 else none

/-- A route: 0 NONE, 1 NOTICE, 2 ALERT. -/
def decodeRoute (b : Byte) : Option Route :=
  if b = 0 then some .none else if b = 1 then some .notice else if b = 2 then some .alert else none

/-- The target of a mode request: STARTING and unassigned codes are refused (R172). -/
def decodeMode (b : Byte) : Option Mode :=
  if b = 1 then some .config else if b = 2 then some .run else if b = 3 then some .listen else if b = 4 then some .standby else none

/-- A handle: its slot is at most 511 (R147). -/
def decodeHandle (h : HandleArg) : Option Handle :=
  if h.slot.toNat < 512 then some { slot := h.slot.toNat, gen := h.gen } else none

/-- A key inside the ranges of R12: the selector value is below 2 to the power of the selector length. -/
def decodeKey (k : KeyArg) : Option Key := do
  let line ← decodeLineOrAny k.line
  let ident ← decodeIdent k.ident
  let selLen ← decodeSelLen k.selLen
  if k.selVal.toNat < 2 ^ selLen.val then some { line := line, ident := ident, selLen := selLen, selVal := k.selVal } else none

/-- The eight data bytes of a value argument. -/
def valueData (v : ValueArg) : List Byte := [v.d0, v.d1, v.d2, v.d3, v.d4, v.d5, v.d6, v.d7]

/-- A value: a length of 0 to 8 and its first bytes (R151, R182). -/
def decodeValue (v : ValueArg) : Option (List Byte) := if v.len.toNat ≤ 8 then some ((valueData v).take v.len.toNat) else none

/-- The policy arguments; period, line set and priority are kept as clocked in (R148, R152, R182). -/
def decodePolicy (p : PolicyArg) : Option Policy := do
  let owner ← decodeOwner p.owner
  let updateNotice ← decodeUpdateNotice p.updateNotice
  let edge ← decodeBool p.edgeNotice
  some { limit := p.limit, owner := owner, updateNotice := updateNotice, edge := edge, period := p.period,
         lineSet := p.lineSet, priority := p.priority }

/-- Line set and priority of an export record: a non-empty set of lines 0 to 3 and a priority of at most 3 (R148, R152). -/
def decodeExport (p : Policy) : Option (LineSet × Fin 4) := do
  let set ← decodeLineSet p.lineSet
  let priority ← decodeFin4 p.priority
  some (set, priority)

/-- The arguments of CREATE (R148): region 1 BOUND or 3 EXPORT; for BOUND, period, line set and priority are not examined. -/
def decodeCreate (region : Byte) (key : KeyArg) (policy : PolicyArg) : Option HostCommand := do
  let exported ← if region = 1 then some false else if region = 3 then some true else none
  let k ← decodeKey key
  let p ← decodePolicy policy
  if exported && (decodeExport p).isNone then none else some (.create exported k p)

/-- The arguments of PURGE (R19): a non-empty region set, a line or ANY, a filter, faulted-too. -/
def decodePurge (regions line filter faultedToo : Byte) : Option PurgeFilter := do
  let l ← decodeLineOrAny line
  let staleOnly ← decodeBool filter
  let faulted ← decodeBool faultedToo
  if regions = 0 || regions.extractLsb' 3 5 != 0 then none
  else some { bound := regions.getLsbD 0, learned := regions.getLsbD 1, exported := regions.getLsbD 2, line := l,
              staleOnly := staleOnly, faultedToo := faulted }

/-- The sizes of SET_LAYOUT (R15): none above 512, 512 together. -/
def decodeLayout (b l e : Half) : Option Layout :=
  if b.toNat ≤ 512 && l.toNat ≤ 512 && e.toNat ≤ 512 && b.toNat + l.toNat + e.toNat == 512 then
    some { b := b.toNat, l := l.toNat, e := e.toNat }
  else none

/-- The arguments of SET_CLASS (R34): the class number and its fields. -/
def decodeClass (a : ClassArg) : Option (Fin 16 × AccClass) := do
  let number ← decodeFin16 a.number
  let enabled ← decodeBool a.enabled
  let lines ← decodeLineSet a.lineSet
  let compare ← decodeIdent a.compare
  let mask ← decodeFin4 a.maskNumber
  let selLen ← decodeSelLen a.selLen
  let disposition ← decodeDisposition a.disposition
  let updateNotice ← decodeUpdateNotice a.updateNotice
  let edge ← decodeBool a.edgeNotice
  let announce ← decodeBool a.announce
  let lockToOrigin ← decodeBool a.lockToOrigin
  some (number, { enabled := enabled, lines := lines, compare := compare, mask := mask, selLen := selLen,
                  disposition := disposition, limit := a.limit, updateNotice := updateNotice, edge := edge,
                  announce := announce, lockToOrigin := lockToOrigin })

/-- The arguments of SET_LINE (R60): the line and every setting in its range. -/
def decodeSettings (a : LineArg) : Option (LineId × LineSettings) := do
  let line ← decodeLine a.line
  let rate ← decodeRate a.rate
  let gap ← decodeFin16 a.gap
  let flow ← decodeBool a.flow
  let flushOnEnable ← decodeBool a.flushOnEnable
  let flushOnDisable ← decodeBool a.flushOnDisable
  let wake ← decodeBool a.wake
  let replyPriority ← decodeFin4 a.replyPriority
  let enabled ← decodeBool a.enabled
  if isNode a.node && 1 ≤ a.high.toNat && a.high.toNat ≤ 8 && a.low.toNat ≤ 7 && a.low.toNat < a.high.toNat && a.timeout != 0 then
    some (line, { rate := rate, node := a.node, gap := gap, flow := flow, high := a.high.toNat, low := a.low.toNat,
                  timeout := a.timeout, flushOnEnable := flushOnEnable, flushOnDisable := flushOnDisable, wake := wake,
                  replyPriority := replyPriority, enabled := enabled })
  else none

/-- The seven routes of SET_ROUTES (R167). -/
def decodeRoutes (a : RoutesArg) : Option Routes := do
  let lineOverrun ← decodeRoute a.lineOverrun
  let lineCollision ← decodeRoute a.lineCollision
  let noticeOverflow ← decodeRoute a.noticeOverflow
  let sweepOverrun ← decodeRoute a.sweepOverrun
  let faultCorrected ← decodeRoute a.faultCorrected
  let faultUncorrectable ← decodeRoute a.faultUncorrectable
  let wake ← decodeRoute a.wake
  some { lineOverrun := lineOverrun, lineCollision := lineCollision, noticeOverflow := noticeOverflow,
         sweepOverrun := sweepOverrun, faultCorrected := faultCorrected, faultUncorrectable := faultUncorrectable, wake := wake }

/-! ## Codes (R181 to R183) -/

def Mode.code : Mode → Byte
  | .starting => 0 | .config => 1 | .run => 2 | .listen => 3 | .standby => 4

def ResultCode.code : ResultCode → Byte
  | .ok => 0x00 | .wrongMode => 0x01 | .badArgument => 0x02 | .staleHandle => 0x03 | .notFound => 0x04 | .keyInUse => 0x05
  | .regionFull => 0x06 | .alreadyHeld => 0x07 | .holdLimit => 0x08 | .notHeld => 0x09 | .tooLate => 0x0A | .faulted => 0x0B
  | .layoutConflict => 0x0C | .empty => 0x0D | .noResult => 0xFF

/-- The state codes of the record image (R183); an EMPTY slot is never shown. -/
def RecState.code : RecState → Byte
  | .empty => 0 | .new => 1 | .fresh => 2 | .stale => 3 | .faulted => 4

/-- The kind codes of the record image (R183). -/
def kindCode : Option Kind → Byte
  | none => 0 | some .bound => 1 | some .learned => 2 | some .exported => 3

def UpdateNotice.code : UpdateNotice → Byte
  | .never => 0 | .change => 1 | .every => 2

def Disposition.code : Disposition → Byte
  | .bind => 0 | .learn => 1 | .drop => 2

def Rate.code : Rate → Byte
  | .b9600 => 0 | .b19200 => 1 | .b38400 => 2 | .b57600 => 3 | .b115200 => 4 | .b230400 => 5 | .b460800 => 6

/-- Source: 0 absent, 1 to 126 a node, 0xFF the host (R183). -/
def Source.code : Source → Byte
  | .absent => 0 | .node a => a | .host => 0xFF

/-- A line or ANY (R182). -/
def lineCode : Option LineId → Byte
  | none => 0xFF | some l => byteOf l.val

/-- The notice kind codes (R183). -/
def NoticeKind.code : NoticeKind → Byte
  | .changed => 1 | .recovered => 2 | .stale => 3 | .created => 4 | .holdExpired => 5 | .faulted => 6 | .withdrawn => 7
  | .evicted _ => 8

/-- The reason codes (R183). -/
def NoticeKind.reasonCode : NoticeKind → Byte
  | .evicted .replaced => 1 | .evicted .age => 2 | .evicted .layout => 3 | .evicted .lineRestart => 4
  | _ => 0

/-- The sources of the fault capture image (R183). -/
def FaultSource.code : FaultSource → Byte
  | .line l => byteOf l.val | .command => 4 | .sweep => 5

/-! ## Images -/

/-- A handle, 3 bytes (R182). -/
def handleBytes (h : Handle) : List Byte := halfBytes (BitVec.ofNat 16 h.slot) ++ [h.gen]

/-- A key, 7 bytes (R182). -/
def keyBytes (k : Key) : List Byte :=
  lineCode k.line :: (triBytes (k.ident.setWidth 24) ++ byteOf k.selLen.val :: halfBytes k.selVal)

/-- A value, 9 bytes: its length, then its bytes and zeros; absent is length 0xFF (R182, R183). -/
def valueBytes : Option (List Byte) → List Byte
  | none => 0xFF :: List.replicate 8 0
  | some v => byteOf v.length :: (v ++ List.replicate 8 0).take 8

/-- The directory part of the record image, 13 bytes (R183). -/
def directoryImage (i : Nat) (x : Slot) : List Byte :=
  handleBytes { slot := i, gen := x.gen } ++ [x.state.code, kindCode x.kind] ++
  (match x.key with
    | some k => keyBytes k
    | none => List.replicate 7 0) ++
  [boolByte x.held ||| (boolByte x.expiredHold <<< 1) ||| (boolByte x.missed <<< 2)]

/-- Bytes 33 to 40 of the record image: the fields of the record's own kind (R183). -/
def kindImage (x : Slot) : List Byte :=
  match x.kind with
  | some .learned => [x.body.originNode, byteOf x.body.originLine.val, byteOf x.body.creatingClass.val] ++ List.replicate 5 0
  | some .exported => halfBytes x.body.period ++ [x.body.lineSet.setWidth 8, byteOf x.body.priority.val] ++ tickBytes x.body.nextDue
  | _ => List.replicate 8 0

/-- Bytes 46 to 60 of the record image: whether a pending update is present, its value, source and arrival stamp (R183). -/
def updateImage : Option PendingUpdate → List Byte
  | none => List.replicate 15 0
  | some u => [1] ++ valueBytes (some u.value) ++ [u.source] ++ tickBytes u.stamp

/-- Bytes 41 to 61 of the record image: the hold entry, or zeros (R183). -/
def holdImage : Option HoldEntry → List Byte
  | none => List.replicate 21 0
  | some e => tickBytes e.start ++ [e.limit] ++ updateImage e.update ++ [e.superseded]

/-- The record image of READ, 62 bytes (R183). -/
def recordImage (i : Nat) (x : Slot) (h : Option HoldEntry) : List Byte :=
  directoryImage i x ++ valueBytes x.body.value ++ tickBytes x.body.stamp ++ halfBytes x.body.limit ++
  [x.body.source.code, x.body.owner.getD 0, x.body.count, x.body.updateNotice.code, boolByte x.body.edge] ++
  kindImage x ++ holdImage h

/-- A notice entry, 9 bytes (R183). -/
def noticeImage (e : Notice) : List Byte := handleBytes e.handle ++ [e.kind.code, e.kind.reasonCode] ++ tickBytes e.tick

/-- The fault capture image, 11 bytes, all zero when it is empty (R183). -/
def captureImage : Option Capture → List Byte
  | none => List.replicate 11 0
  | some c =>
    [1, if c.corrected then 1 else 2] ++ halfBytes (BitVec.ofNat 16 c.slot) ++ [c.gen, c.source.code] ++ tickBytes c.tick ++
    [boolByte c.overwritten]

/-- The fields of a class as READ_CLASS returns them: as SET_CLASS takes them, less the number; 14 bytes (R182). -/
def classBytes (c : AccClass) : List Byte :=
  [boolByte c.enabled, c.lines.setWidth 8] ++ triBytes (c.compare.setWidth 24) ++
  [byteOf c.mask.val, byteOf c.selLen.val, c.disposition.code] ++ halfBytes c.limit ++
  [c.updateNotice.code, boolByte c.edge, boolByte c.announce, boolByte c.lockToOrigin]

/-- The settings of a line, 12 bytes in the order of R59 (R182). -/
def settingsBytes (t : LineSettings) : List Byte :=
  [t.rate.code, t.node, byteOf t.gap.val, boolByte t.flow, byteOf t.high, byteOf t.low, t.timeout, boolByte t.flushOnEnable,
   boolByte t.flushOnDisable, boolByte t.wake, byteOf t.replyPriority.val, boolByte t.enabled]

/-- Hold state, milliseconds remaining and restart option as READ_LINE shows them (R61, R182). A WAITING hold has its
whole duration remaining, and no hold shows zeros (DEDUCED, log 12). -/
def holdBytes : LineHold → List Byte
  | .off => [0, 0, 0, 0]
  | .waiting d r => [1] ++ halfBytes d ++ [boolByte r]
  | .breaking d r => [2] ++ halfBytes d ++ [boolByte r]

/-- The control entry: empty 0, PAUSE 1, RESUME 2 (R182). -/
def controlCode : Option Control → Byte
  | none => 0 | some .pause => 1 | some .resume => 2

/-- The body of READ_LINE, 25 bytes: the settings, then the state items of R61 in order (R182). -/
def lineBytes (active : Bool) (ln : LineState) : List Byte :=
  settingsBytes ln.settings ++
  [boolByte active, byteOf ln.rxQueue.length, byteOf ln.data.length, controlCode ln.control, boolByte ln.flight.isSome,
   byteOf ((ln.flight.map Flight.collisions).getD 0), boolByte ln.outstanding, byteOf ln.pauseSet.length] ++
  holdBytes ln.hold ++ [boolByte ln.restartRequest]

/-- The eight counters in the order of R85, 16 bytes (R182). -/
def counterBytes (k : Counters) : List Byte :=
  halfBytes k.framesTaken ++ halfBytes k.badFrame ++ halfBytes k.overrun ++ halfBytes k.unclassed ++ halfBytes k.refused ++
  halfBytes k.unanswered ++ halfBytes k.collisions ++ halfBytes k.skipped

end Sys2Proof.Machine
end

