-- ==== Sys2Proof/Decode.lean ====
section
/-! DEFINITION. Words and transactions. The opcode table gives no row any bits, so no word spells a command. The host's
transactions do spell commands: their bytes (R181, R182), and what a run of whole bytes that fits its type stands for. -/

namespace Sys2Proof

/-- The opcode table gives no bits: no word spells a command. -/
def decodeTableWord (_nbits _w : Nat) : Option Instr := none

namespace Machine

/-! ## The bytes of a transaction -/

/-- A handle argument, 3 bytes (R182). -/
def handleArgBytes (h : HandleArg) : List Byte := halfBytes h.slot ++ [h.gen]

/-- A key argument, 7 bytes (R182). -/
def keyArgBytes (k : KeyArg) : List Byte := k.line :: (triBytes k.ident ++ k.selLen :: halfBytes k.selVal)

/-- A value argument, 9 bytes (R182). -/
def valueArgBytes (v : ValueArg) : List Byte := [v.len, v.d0, v.d1, v.d2, v.d3, v.d4, v.d5, v.d6, v.d7]

/-- The policy arguments of CREATE and MODIFY, 9 bytes (R182). -/
def policyBytes (p : PolicyArg) : List Byte :=
  halfBytes p.limit ++ [p.owner, p.updateNotice, p.edgeNotice] ++ halfBytes p.period ++ [p.lineSet, p.priority]

/-- The arguments of SET_CLASS, 15 bytes (R182). -/
def classArgBytes (a : ClassArg) : List Byte :=
  [a.number, a.enabled, a.lineSet] ++ triBytes a.compare ++ [a.maskNumber, a.selLen, a.disposition] ++ halfBytes a.limit ++
  [a.updateNotice, a.edgeNotice, a.announce, a.lockToOrigin]

/-- The arguments of SET_LINE, 13 bytes (R182). -/
def lineArgBytes (a : LineArg) : List Byte :=
  [a.line, a.rate, a.node, a.gap, a.flow, a.high, a.low, a.timeout, a.flushOnEnable, a.flushOnDisable, a.wake, a.replyPriority,
   a.enabled]

/-- The seven routes (R182). -/
def routesBytes (a : RoutesArg) : List Byte :=
  [a.lineOverrun, a.lineCollision, a.noticeOverflow, a.sweepOverrun, a.faultCorrected, a.faultUncorrectable, a.wake]

/-- A COMMAND transaction: its type byte, the command code, the arguments (R181). -/
def commandBytes (code : Byte) (args : List Byte) : Option (List Byte) := some (0xA1 :: code :: args)

/-- The bytes that the host clocks in for a transaction (R181, R182). The bytes after the type byte of a STATUS and a RESULT may be
anything; here they are zeros. A command that is no taken transaction has none. -/
def encodeTransaction : Instr → Option (List Byte)
  | .status count => some (0xA0 :: List.replicate (count - 1) 0)
  | .result count => some (0xA2 :: List.replicate (count - 1) 0)
  | .create region key policy => commandBytes 0x10 (region :: (keyArgBytes key ++ policyBytes policy))
  | .find key => commandBytes 0x11 (keyArgBytes key)
  | .read handle => commandBytes 0x12 (handleArgBytes handle)
  | .write handle value publishNow => commandBytes 0x13 (handleArgBytes handle ++ valueArgBytes value ++ [publishNow])
  | .modify handle policy => commandBytes 0x14 (handleArgBytes handle ++ policyBytes policy)
  | .retire handle => commandBytes 0x15 (handleArgBytes handle)
  | .hold handle limit => commandBytes 0x16 (handleArgBytes handle ++ [limit])
  | .release handle choice => commandBytes 0x17 (handleArgBytes handle ++ [choice])
  | .setLayout bound learned exported => commandBytes 0x18 (halfBytes bound ++ halfBytes learned ++ halfBytes exported)
  | .purge regions line filter faultedToo => commandBytes 0x19 [regions, line, filter, faultedToo]
  | .setClass fields => commandBytes 0x20 (classArgBytes fields)
  | .setMask number mask => commandBytes 0x21 (number :: triBytes mask)
  | .readClass copy number => commandBytes 0x22 [copy, number]
  | .commitClasses => commandBytes 0x23 []
  | .setShares fieldShare sweepShare => commandBytes 0x28 [fieldShare, sweepShare]
  | .setLine fields => commandBytes 0x30 (lineArgBytes fields)
  | .readLine line => commandBytes 0x31 [line]
  | .readCounters line clear => commandBytes 0x32 [line, clear]
  | .lineHold line duration restart => commandBytes 0x33 (line :: (halfBytes duration ++ [restart]))
  | .lineAbort line => commandBytes 0x34 [line]
  | .setTiming period expiry => commandBytes 0x38 (period :: halfBytes expiry)
  | .readTiming => commandBytes 0x39 []
  | .popNotice => commandBytes 0x40 []
  | .scanMissed start => commandBytes 0x41 (halfBytes start)
  | .setNotice threshold holdOff => commandBytes 0x42 [threshold, holdOff]
  | .setRoutes routes => commandBytes 0x48 (routesBytes routes)
  | .clearConditions flags => commandBytes 0x49 [flags]
  | .readFault => commandBytes 0x4A []
  | .clearFault => commandBytes 0x4B []
  | .requestMode target => commandBytes 0x50 [target]
  | .reset => commandBytes 0x5F []
  | _ => none

/-! ## What the bytes stand for -/

/-- The record commands (0x10 to 0x17), by code and argument bytes (R182). -/
def readRecordCommand (code : Byte) (args : List Byte) : Option Instr :=
  if code = 0x10 then
    match args with
    | [re, kl, i2, i1, i0, sl, v1, v0, m1, m0, ow, un, en, p1, p0, ls, pr] => some (.create re { line := kl, ident := i2 ++ i1 ++ i0, selLen := sl, selVal := v1 ++ v0 } { limit := m1 ++ m0, owner := ow, updateNotice := un, edgeNotice := en, period := p1 ++ p0, lineSet := ls, priority := pr })
    | _ => none
  else if code = 0x11 then
    match args with
    | [kl, i2, i1, i0, sl, v1, v0] => some (.find { line := kl, ident := i2 ++ i1 ++ i0, selLen := sl, selVal := v1 ++ v0 })
    | _ => none
  else if code = 0x12 then
    match args with
    | [h1, h0, g] => some (.read { slot := h1 ++ h0, gen := g })
    | _ => none
  else if code = 0x13 then
    match args with
    | [h1, h0, g, n, d0, d1, d2, d3, d4, d5, d6, d7, pn] => some (.write { slot := h1 ++ h0, gen := g } { len := n, d0 := d0, d1 := d1, d2 := d2, d3 := d3, d4 := d4, d5 := d5, d6 := d6, d7 := d7 } pn)
    | _ => none
  else if code = 0x14 then
    match args with
    | [h1, h0, g, m1, m0, ow, un, en, p1, p0, ls, pr] => some (.modify { slot := h1 ++ h0, gen := g } { limit := m1 ++ m0, owner := ow, updateNotice := un, edgeNotice := en, period := p1 ++ p0, lineSet := ls, priority := pr })
    | _ => none
  else if code = 0x15 then
    match args with
    | [h1, h0, g] => some (.retire { slot := h1 ++ h0, gen := g })
    | _ => none
  else if code = 0x16 then
    match args with
    | [h1, h0, g, m] => some (.hold { slot := h1 ++ h0, gen := g } m)
    | _ => none
  else if code = 0x17 then
    match args with
    | [h1, h0, g, ch] => some (.release { slot := h1 ++ h0, gen := g } ch)
    | _ => none
  else none

/-- The table-wide and class commands (0x18 to 0x28), by code and argument bytes (R182). -/
def readTableCommand (code : Byte) (args : List Byte) : Option Instr :=
  if code = 0x18 then
    match args with
    | [b1, b0, l1, l0, e1, e0] => some (.setLayout (b1 ++ b0) (l1 ++ l0) (e1 ++ e0))
    | _ => none
  else if code = 0x19 then
    match args with
    | [rs, li, fi, ft] => some (.purge rs li fi ft)
    | _ => none
  else if code = 0x20 then
    match args with
    | [nu, en, ls, c2, c1, c0, mk, sl, di, m1, m0, un, ed, an, lk] => some (.setClass { number := nu, enabled := en, lineSet := ls, compare := c2 ++ c1 ++ c0, maskNumber := mk, selLen := sl, disposition := di, limit := m1 ++ m0, updateNotice := un, edgeNotice := ed, announce := an, lockToOrigin := lk })
    | _ => none
  else if code = 0x21 then
    match args with
    | [nu, m2, m1, m0] => some (.setMask nu (m2 ++ m1 ++ m0))
    | _ => none
  else if code = 0x22 then
    match args with
    | [co, nu] => some (.readClass co nu)
    | _ => none
  else if code = 0x23 then
    match args with
    | [] => some .commitClasses
    | _ => none
  else if code = 0x28 then
    match args with
    | [f, w] => some (.setShares f w)
    | _ => none
  else none

/-- The line and timing commands (0x30 to 0x39), by code and argument bytes (R182). -/
def readLineCommand (code : Byte) (args : List Byte) : Option Instr :=
  if code = 0x30 then
    match args with
    | [li, ra, no, ga, fl, hi, lo, ti, fe, fd, wa, rp, en] => some (.setLine { line := li, rate := ra, node := no, gap := ga, flow := fl, high := hi, low := lo, timeout := ti, flushOnEnable := fe, flushOnDisable := fd, wake := wa, replyPriority := rp, enabled := en })
    | _ => none
  else if code = 0x31 then
    match args with
    | [li] => some (.readLine li)
    | _ => none
  else if code = 0x32 then
    match args with
    | [li, cl] => some (.readCounters li cl)
    | _ => none
  else if code = 0x33 then
    match args with
    | [li, d1, d0, rs] => some (.lineHold li (d1 ++ d0) rs)
    | _ => none
  else if code = 0x34 then
    match args with
    | [li] => some (.lineAbort li)
    | _ => none
  else if code = 0x38 then
    match args with
    | [pe, x1, x0] => some (.setTiming pe (x1 ++ x0))
    | _ => none
  else if code = 0x39 then
    match args with
    | [] => some .readTiming
    | _ => none
  else none

/-- The notice, condition and mode commands (0x40 to 0x5F), by code and argument bytes (R182). -/
def readUnitCommand (code : Byte) (args : List Byte) : Option Instr :=
  if code = 0x40 then
    match args with
    | [] => some .popNotice
    | _ => none
  else if code = 0x41 then
    match args with
    | [s1, s0] => some (.scanMissed (s1 ++ s0))
    | _ => none
  else if code = 0x42 then
    match args with
    | [th, ho] => some (.setNotice th ho)
    | _ => none
  else if code = 0x48 then
    match args with
    | [r0, r1, r2, r3, r4, r5, r6] => some (.setRoutes { lineOverrun := r0, lineCollision := r1, noticeOverflow := r2, sweepOverrun := r3, faultCorrected := r4, faultUncorrectable := r5, wake := r6 })
    | _ => none
  else if code = 0x49 then
    match args with
    | [fl] => some (.clearConditions fl)
    | _ => none
  else if code = 0x4A then
    match args with
    | [] => some .readFault
    | _ => none
  else if code = 0x4B then
    match args with
    | [] => some .clearFault
    | _ => none
  else if code = 0x50 then
    match args with
    | [tg] => some (.requestMode tg)
    | _ => none
  else if code = 0x5F then
    match args with
    | [] => some .reset
    | _ => none
  else none

/-- The COMMAND transactions, by code; a code that names no command stands for nothing (R182). -/
def readCommand (code : Byte) (args : List Byte) : Option Instr :=
  if code.toNat < 0x18 then readRecordCommand code args
  else if code.toNat < 0x30 then readTableCommand code args
  else if code.toNat < 0x40 then readLineCommand code args
  else readUnitCommand code args

/-- The command that the whole bytes of a transaction stand for, when their count fits their type (R181); else none. -/
def readTransaction : List Byte → Option Instr
  | [] => none
  | type :: rest =>
    if type = 0xA0 then if rest.length ≤ 4 then some (.status (rest.length + 1)) else none
    else if type = 0xA1 then
      match rest with
      | [] => none
      | code :: args => readCommand code args
    else if type = 0xA2 then if 1 ≤ rest.length then some (.result (rest.length + 1)) else none
    else none

end Machine

end Sys2Proof
end

