-- ==== Sys2Proof/Config.lean ====
section
/-! DEFINITION. What the spec leaves open for good: the free values of the model. -/

namespace Sys2Proof

/-- The bytes the part clocks out after the status byte in a transaction whose type byte names no type: the spec
states none of them ("The bytes the part clocks out after it depend on the type", R140). A free value: it has no
body, and `State.freeCount` says which ones have been used (log 9). -/
opaque Config.freeByte : Nat → Byte

end Sys2Proof
end

