-- ==== Sys2Proof/Machine/Engine.lean ====
section
/-! DEFINITION. The engine arbiter (R44 to R50): who requests the engine, who is granted next, and what a grant does to the counters. -/

namespace Sys2Proof.Machine

/-- A command that requests the engine while it is PENDING: a table command (R44). -/
def HostCommand.isTable : HostCommand → Bool
  | .requestMode _ => false
  | .reset => false
  | _ => true

/-- The command slot requests the engine (R44). -/
def State.commandRequests (s : State) : Bool :=
  match s.slot with
  | .pending c => c.isTable
  | _ => false

/-- The part is in RUN or LISTEN, in a drain too: the modes in which frames are taken (R89). -/
def State.takesFrames (s : State) : Bool := s.mode == .run || s.mode == .listen

/-- A line requests the engine: a restart request stands (R47), or its receive queue holds a frame (R45) in a mode in which
frames are taken (R89, R171). -/
def State.lineRequests (s : State) (l : LineId) : Bool :=
  (s.line l).restartRequest || (s.takesFrames && !(s.line l).rxQueue.isEmpty)

/-- At least one line requests the engine. -/
def State.anyLineRequests (s : State) : Bool :=
  s.lineRequests 0 || s.lineRequests 1 || s.lineRequests 2 || s.lineRequests 3

/-- The first requesting line counting upward from the one after the line pointer (R49, case 3). -/
def State.nextLine (s : State) : Option LineId :=
  [s.arb.pointer + 1, s.arb.pointer + 2, s.arb.pointer + 3, s.arb.pointer].find? s.lineRequests

/-- Who is granted an operation. -/
inductive Grant where
  | command | line (l : LineId) | sweep
  deriving DecidableEq, Repr

/-- The arbiter's choice among the requesters waiting (R49); nobody in STARTING (R48) and when none waits. -/
def State.grantNext (s : State) : Option Grant :=
  if s.mode = .starting then none
  else if s.sweep.isSome && s.arb.sweepShare ≤ s.arb.sweepWait then some .sweep
  else if s.commandRequests && (!s.anyLineRequests || s.arb.run < s.arb.fieldShare) then some .command
  else
    match s.nextLine with
    | some l => some (.line l)
    | none => if s.sweep.isSome then some .sweep else none

/-- The sweep-wait count after a grant to another requester: it rises while a sweep is in flight (R50). -/
def State.waitAfterOther (s : State) : Nat := if s.sweep.isSome then s.arb.sweepWait + 1 else s.arb.sweepWait

/-- The counters after a grant to the command slot (R50). -/
def State.grantCommand (s : State) : State :=
  { s with arb := { s.arb with run := if s.anyLineRequests then s.arb.run + 1 else 0, sweepWait := s.waitAfterOther } }

/-- The counters after a grant to a line (R50). -/
def State.grantLine (l : LineId) (s : State) : State :=
  { s with arb := { s.arb with run := 0, pointer := l, sweepWait := s.waitAfterOther } }

/-- The counters after a grant to the sweep (R50). -/
def State.grantSweep (s : State) : State := { s with arb := { s.arb with sweepWait := 0 } }

end Sys2Proof.Machine
end

