-- ==== Sys2Proof/Machine/Flags.lean ====
section
/-! DEFINITION. What the part shows of its flags: the condition flags as bits, the port status byte (R141, R181), the
status word (R142, R181), and the output lines NOTICE_N and ALERT_N (R165, R167). -/

namespace Sys2Proof.Machine

/-- The condition flags as status word byte 3 (R181). -/
def Conditions.byte (c : Conditions) : Byte :=
  boolByte c.lineOverrun ||| (boolByte c.lineCollision <<< 1) ||| (boolByte c.noticeOverflow <<< 2) |||
  (boolByte c.sweepOverrun <<< 3) ||| (boolByte c.faultCorrected <<< 4) ||| (boolByte c.faultUncorrectable <<< 5) |||
  (boolByte c.wake <<< 6)

/-- Some condition flag is set (R141). -/
def Conditions.any (c : Conditions) : Bool :=
  c.lineOverrun || c.lineCollision || c.noticeOverflow || c.sweepOverrun || c.faultCorrected || c.faultUncorrectable || c.wake

/-- The flags left after the named ones clear (R168); the set is a byte of bits as in status word byte 3. -/
def Conditions.without (set : Byte) (c : Conditions) : Conditions :=
  { lineOverrun := c.lineOverrun && !set.getLsbD 0
    lineCollision := c.lineCollision && !set.getLsbD 1
    noticeOverflow := c.noticeOverflow && !set.getLsbD 2
    sweepOverrun := c.sweepOverrun && !set.getLsbD 3
    faultCorrected := c.faultCorrected && !set.getLsbD 4
    faultUncorrectable := c.faultUncorrectable && !set.getLsbD 5
    wake := c.wake && !set.getLsbD 6 }

/-- Some condition whose route is the given one is set (R165, R167). -/
def State.routed (r : Route) (s : State) : Bool :=
  (s.conditions.lineOverrun && s.routes.lineOverrun == r) || (s.conditions.lineCollision && s.routes.lineCollision == r) ||
  (s.conditions.noticeOverflow && s.routes.noticeOverflow == r) || (s.conditions.sweepOverrun && s.routes.sweepOverrun == r) ||
  (s.conditions.faultCorrected && s.routes.faultCorrected == r) ||
  (s.conditions.faultUncorrectable && s.routes.faultUncorrectable == r) || (s.conditions.wake && s.routes.wake == r)

/-- The notice queue calls for NOTICE_N: its count has reached the threshold, or its oldest entry has waited the hold-off (R165). -/
def State.noticeDue (s : State) : Bool :=
  match s.notices with
  | [] => false
  | head :: rest => s.threshold ≤ rest.length + 1 || s.holdOff ≤ head.waited

/-- NOTICE_N is asserted (R165). -/
def State.noticeN (s : State) : Bool := s.noticeDue || s.routed .notice

/-- ALERT_N is asserted (R167). -/
def State.alertN (s : State) : Bool := s.routed .alert

/-- The slot state's two bits: 00 IDLE, 01 PENDING, 10 DONE (R181). -/
def CommandSlot.bits : CommandSlot → BitVec 2
  | .idle => 0 | .pending _ => 1 | .done _ _ => 2

/-- The transition kind's two bits: 00 none, 01 drain, 10 resume (R181). -/
def transitionBits : Option Transition → BitVec 2
  | none => 0 | some .drain => 1 | some .resume => 2

/-- The port status byte (R141, R181). -/
def State.statusByte (s : State) : Byte :=
  s.slot.bits ++ BitVec.ofBool (!s.notices.isEmpty) ++ BitVec.ofBool s.conditions.any ++ BitVec.ofBool s.transition.isSome ++
  BitVec.ofBool (s.mode == .starting) ++ BitVec.ofBool s.refused ++ 0#1

/-- The status word, four bytes (R142, R181). -/
def State.statusWord (s : State) : List Byte :=
  [s.mode.code.extractLsb' 0 4 ++ s.target.code.extractLsb' 0 4,
   BitVec.ofBool s.transition.isSome ++ BitVec.ofBool (s.mode == .starting) ++ s.slot.bits ++ transitionBits s.transition ++ 0#2,
   byteOf s.notices.length,
   s.conditions.byte]

end Sys2Proof.Machine
end

