-- ==== Sys2Proof/Machine/Port.lean ====
section
/-! DEFINITION. The SPI port (R140 to R146): STATUS, RESULT, transactions that are discarded or refused, and what every COMMAND shares. -/

namespace Sys2Proof.Machine

/-- The bytes clocked out by a transaction (model's own record of the output, log 8). -/
def State.clockOut (bytes : List Byte) (s : State) : State := { s with miso := bytes }

/-- A discarded or refused transaction: only the refused bit changes, and it is set (R140). -/
def State.refuse (s : State) : State := { s with refused := true }

/-- A COMMAND cannot be placed: in STARTING, or with the slot PENDING (R144). -/
def State.portClosed (s : State) : Bool := s.mode == .starting || s.slot.isPending

/-- What a COMMAND clocks out: the status byte, then zeros (R140); `argBytes` is the argument length of its code (R182). -/
def State.commandOut (argBytes : Nat) (s : State) : List Byte := s.statusByte :: List.replicate (argBytes + 1) 0

/-- A COMMAND transaction that fits its length (R144): refused when it cannot be placed; otherwise taken, an unread result
being discarded (R143), and checked by the port for its mode, then for its arguments (`none` is BAD_ARGUMENT), before `run`
carries it out or passes it on. -/
def hostCommand {α : Type} (argBytes : Nat) (allowed : Mode → Bool) (args : Option α) (run : α → State → State) (s : State) : State :=
  let out := s.clockOut (s.commandOut argBytes)
  if s.portClosed then out.refuse
  else
    let taken := { out with refused := false }
    if allowed s.mode then
      match args with
      | none => taken.complete .badArgument []
      | some a => run a taken
    else taken.complete .wrongMode []

/-- Commands taken in CONFIG, RUN and LISTEN (R147). -/
def inService : Mode → Bool
  | .config => true | .run => true | .listen => true | _ => false

/-- Commands taken in CONFIG alone (R147). -/
def inConfig : Mode → Bool
  | .config => true | _ => false

/-- Commands taken in RUN and LISTEN (R147). -/
def inTraffic : Mode → Bool
  | .run => true | .listen => true | _ => false

/-- Commands taken in every mode but STARTING: REQUEST_MODE and RESET (R147). -/
def inAnyMode : Mode → Bool
  | .starting => false | _ => true

/-- The result code and body a RESULT returns: those stored in DONE, else NONE and nothing (R145). -/
def CommandSlot.resultBytes : CommandSlot → List Byte
  | .done code body => code.code :: body
  | _ => [ResultCode.noResult.code]

/-- The slot after a RESULT: DONE goes to IDLE, IDLE and PENDING stay (R143, R145). -/
def CommandSlot.afterResult : CommandSlot → CommandSlot
  | .done _ _ => .idle
  | c => c

/-- The first `n` bytes of an output that goes on with zeros (R181). -/
def padded (n : Nat) (bytes : List Byte) : List Byte := (bytes ++ List.replicate n 0).take n

/-- What the part clocks out in a STATUS of `count` bytes (R142, R181). -/
def State.statusOut (count : Nat) (s : State) : List Byte := padded count (s.statusByte :: s.statusWord)

/-- What the part clocks out in a RESULT of `count` bytes (R145, R181). -/
def State.resultOut (count : Nat) (s : State) : List Byte := padded count (s.statusByte :: s.slot.resultBytes)

/-- A STATUS of `count` whole bytes: taken with 1 to 5 bytes, ignored with none, else discarded (R140, R142, R181). -/
def State.statusTransaction (count : Nat) (s : State) : State :=
  if count = 0 then s
  else if count ≤ 5 then { s.clockOut (s.statusOut count) with refused := false }
  else (s.clockOut (s.statusOut count)).refuse

/-- A RESULT of `count` whole bytes: taken with 2 or more, ignored with none, discarded with one (R140, R145, R181). -/
def State.resultTransaction (count : Nat) (s : State) : State :=
  if count = 0 then s
  else if 2 ≤ count then { s.clockOut (s.resultOut count) with refused := false, slot := s.slot.afterResult }
  else (s.clockOut (s.resultOut count)).refuse

/-- The argument length of each command code; a code that names no command has none (R182). -/
def argLength (code : Byte) : Option Nat :=
  if code = 0x10 then some 17 else if code = 0x11 then some 7 else if code = 0x12 then some 3 else if code = 0x13 then some 13
  else if code = 0x14 then some 12 else if code = 0x15 then some 3 else if code = 0x16 then some 4 else if code = 0x17 then some 4
  else if code = 0x18 then some 6 else if code = 0x19 then some 4 else if code = 0x20 then some 15 else if code = 0x21 then some 4
  else if code = 0x22 then some 2 else if code = 0x23 then some 0 else if code = 0x28 then some 2 else if code = 0x30 then some 13
  else if code = 0x31 then some 1 else if code = 0x32 then some 2 else if code = 0x33 then some 4 else if code = 0x34 then some 1
  else if code = 0x38 then some 3 else if code = 0x39 then some 0 else if code = 0x40 then some 0 else if code = 0x41 then some 2
  else if code = 0x42 then some 2 else if code = 0x48 then some 7 else if code = 0x49 then some 1 else if code = 0x4A then some 0
  else if code = 0x4B then some 0 else if code = 0x50 then some 1 else if code = 0x5F then some 0 else none

/-- The byte count of a transaction fits its type (R181). -/
def fitsType : List Byte → Bool
  | [] => false
  | type :: rest =>
    if type = 0xA0 then rest.length ≤ 4
    else if type = 0xA1 then
      match rest with
      | [] => false
      | code :: args => argLength code == some args.length
    else if type = 0xA2 then 1 ≤ rest.length
    else false

/-- A transaction of these whole bytes and stray bits is discarded, or refused as a COMMAND that cannot be placed (R140, R144). -/
def State.turnsAway (clocked : List Byte) (strayBits : Nat) (s : State) : Bool :=
  strayBits != 0 || !fitsType clocked || (clocked.head? == some 0xA1 && s.portClosed)

/-- What the part clocks out over the whole bytes of a transaction that it turns away: by the type byte (R140); for a type
byte that names no type, free values after the status byte (log 9). -/
def State.discardOut (clocked : List Byte) (s : State) : State :=
  match clocked with
  | [] => s
  | type :: rest =>
    if type = 0xA0 then s.clockOut (s.statusOut (rest.length + 1))
    else if type = 0xA1 then s.clockOut (s.statusByte :: List.replicate rest.length 0)
    else if type = 0xA2 then s.clockOut (s.resultOut (rest.length + 1))
    else
      { s.clockOut (s.statusByte :: (List.range' s.freeCount rest.length).map Config.freeByte) with
        freeCount := s.freeCount + rest.length }

/-- A transaction that the part turns away (R140): ignored when no whole byte was clocked; a transaction that would be taken
is no such event and changes nothing (log 1). -/
def State.discardTransaction (clocked : List Byte) (strayBits : Nat) (s : State) : State :=
  if clocked = [] then s else if s.turnsAway clocked strayBits then (s.discardOut clocked).refuse else s

/-- STATUS (R142). -/
def execStatus (count : Nat) (s : State) : Answer := whilePowered (·.statusTransaction count) s

/-- RESULT (R145). -/
def execResult (count : Nat) (s : State) : Answer := whilePowered (·.resultTransaction count) s

/-- DISCARDED_TRANSACTION (R140). -/
def execDiscardedTransaction (clocked : List Byte) (strayBits : Nat) (s : State) : Answer :=
  whilePowered (·.discardTransaction clocked strayBits) s

end Sys2Proof.Machine
end

