-- ==== Sys2Proof/Machine/Classes.lean ====
section
/-! DEFINITION. The commands of the class store (R34 to R38) and of the arbiter (R51). -/

namespace Sys2Proof.Machine

/-- One staged class is replaced (R34). -/
def State.setClass (number : Fin 16) (c : AccClass) (s : State) : State :=
  { s with staged := { s.staged with classes := s.staged.classes.set number.val c number.isLt } }.complete .ok []

/-- The arguments of SET_MASK (R35): a mask number and a 20-bit mask. -/
def decodeMask (number : Byte) (mask : Tri) : Option (Fin 4 × Ident) := do
  let n ← decodeFin4 number
  let m ← decodeIdent mask
  some (n, m)

/-- One staged mask is replaced (R35). -/
def State.setMask (number : Fin 4) (mask : Ident) (s : State) : State :=
  { s with staged := { s.staged with masks := s.staged.masks.set number.val mask number.isLt } }.complete .ok []

/-- The arguments of READ_CLASS (R36): ACTIVE 0 or STAGED 1 (as `true`), and a class number. -/
def decodeReadClass (copy number : Byte) : Option (Bool × Fin 16) := do
  let staged ← decodeBool copy
  let n ← decodeFin16 number
  some (staged, n)

/-- The four masks of a copy, 12 bytes (R182). -/
def maskBytes (c : ClassSet) : List Byte :=
  triBytes ((c.masks.get 0).setWidth 24) ++ triBytes ((c.masks.get 1).setWidth 24) ++
  triBytes ((c.masks.get 2).setWidth 24) ++ triBytes ((c.masks.get 3).setWidth 24)

/-- The answer of READ_CLASS (R36): class fields, masks of the same copy, commit-requested mark. -/
def State.readClass (staged : Bool) (number : Fin 16) (s : State) : State :=
  let copy := if staged then s.staged else s.active
  s.complete .ok (classBytes (copy.classes.get number) ++ maskBytes copy ++ [boolByte s.commitRequested])

/-- COMMIT_CLASSES: installed at once in CONFIG (R37), deferred by the mark in RUN and LISTEN (R38). -/
def State.commitClasses (s : State) : State :=
  if s.mode = .config then s.install.complete .ok [0] else { s with commitRequested := true }.complete .ok [1]

/-- The arguments of SET_SHARES (R51): F 1 to 15, S 1 to 255. -/
def decodeShares (f w : Byte) : Option (Nat × Nat) :=
  if 1 ≤ f.toNat && f.toNat ≤ 15 && 1 ≤ w.toNat then some (f.toNat, w.toNat) else none

/-- SET_SHARES: both shares, run and sweep-wait 0, the line pointer kept (R51). -/
def State.setShares (f w : Nat) (s : State) : State :=
  { s with arb := { s.arb with fieldShare := f, sweepShare := w, run := 0, sweepWait := 0 } }.complete .ok [byteOf f, byteOf w]

/-- SET_CLASS (R34). -/
def execSetClass (fields : ClassArg) (s : State) : Answer :=
  whilePowered (hostCommand 15 inService (decodeClass fields) fun a => State.setClass a.1 a.2) s

/-- SET_MASK (R35). -/
def execSetMask (number : Byte) (mask : Tri) (s : State) : Answer :=
  whilePowered (hostCommand 4 inService (decodeMask number mask) fun a => State.setMask a.1 a.2) s

/-- READ_CLASS (R36). -/
def execReadClass (copy number : Byte) (s : State) : Answer :=
  whilePowered (hostCommand 2 inService (decodeReadClass copy number) fun a => State.readClass a.1 a.2) s

/-- COMMIT_CLASSES (R37, R38). -/
def execCommitClasses (s : State) : Answer :=
  whilePowered (hostCommand 0 inService (some ()) fun _ => State.commitClasses) s

/-- SET_SHARES (R51). -/
def execSetShares (fieldShare sweepShare : Byte) (s : State) : Answer :=
  whilePowered (hostCommand 2 inConfig (decodeShares fieldShare sweepShare) fun a => State.setShares a.1 a.2) s

end Sys2Proof.Machine
end

