-- ==== Sys2Proof/Machine/LineCommands.lean ====
section
/-! DEFINITION. The host commands of the line blocks: SET_LINE, READ_LINE, READ_COUNTERS, LINE_HOLD, LINE_ABORT. -/

namespace Sys2Proof.Machine

/-- The event that a change of the enabled setting in RUN or LISTEN makes (R81, R82); with no change there is none. -/
def LineState.reenable (acts : Bool) (enabled : Bool) (ln : LineState) : LineState :=
  let changed := { ln with settings := { ln.settings with enabled := enabled } }
  if enabled && !ln.settings.enabled then changed.enableEvent acts
  else if !enabled && ln.settings.enabled then changed.disableEvent acts
  else changed

/-- SET_LINE after its argument check (R60): in RUN and LISTEN any setting but enabled must equal the line's own. -/
def State.setLineSettings (l : LineId) (t : LineSettings) (s : State) : State :=
  if s.mode = .config then (s.modifyLine l fun ln => { ln with settings := t }).complete .ok []
  else if { t with enabled := (s.line l).settings.enabled } = (s.line l).settings then
    (s.modifyLine l fun ln => ln.reenable s.flowActs t.enabled).complete .ok []
  else s.complete .wrongMode []

/-- READ_LINE (R61). -/
def State.readLineState (l : LineId) (s : State) : State := s.complete .ok (lineBytes (s.lineActive l) (s.line l))

/-- The arguments of READ_COUNTERS (R86). -/
def decodeReadCounters (line clear : Byte) : Option (LineId × Bool) := do
  let l ← decodeLine line
  let c ← decodeBool clear
  some (l, c)

/-- READ_COUNTERS: the values as they stand, and with clear yes all eight set to 0 in the same step (R86). -/
def State.readCounters (l : LineId) (clear : Bool) (s : State) : State :=
  let t := if clear then s.modifyLine l fun ln => { ln with counters := .zero } else s
  t.complete .ok (counterBytes (s.line l).counters)

/-- The arguments of LINE_HOLD (R78); every duration of two bytes is in range. -/
def decodeLineHold (line : Byte) (duration : Half) (restart : Byte) : Option (LineId × Half × Bool) := do
  let l ← decodeLine line
  let r ← decodeBool restart
  some (l, duration, r)

/-- LINE_HOLD on one line (R78): start, replace, stop or cancel. -/
def LineState.commandHold (active : Bool) (duration : Half) (restart : Bool) (ln : LineState) : LineState :=
  if duration = 0 then
    match ln.hold with
    | .breaking _ _ => ln.endBreak active
    | .waiting _ _ => { ln with hold := .off }
    | .off => ln
  else
    match ln.hold with
    | .off => if ln.flight.isSome then { ln with hold := .waiting duration restart } else ln.startBreak duration restart
    | .waiting _ _ => { ln with hold := .waiting duration restart }
    | .breaking _ _ => { ln with hold := .breaking duration restart }

/-- LINE_HOLD (R78). -/
def State.lineHold (l : LineId) (duration : Half) (restart : Bool) (s : State) : State :=
  (s.modifyLine l fun ln => ln.commandHold (s.lineActive l) duration restart).complete .ok []

/-- An entry is a PUBLISH (R129). -/
def DataEntry.isPublish (e : DataEntry) : Bool :=
  match e.item with
  | .publish _ => true
  | .reply _ _ => false

/-- LINE_ABORT on one line: every data entry is removed and counted, SKIPPED for PUBLISH and UNANSWERED for REPLY (R135). -/
def LineState.abort (ln : LineState) : LineState :=
  LineState.countTimes .unanswered (ln.data.countP fun e => !e.isPublish)
    (LineState.countTimes .skipped (ln.data.countP DataEntry.isPublish) { ln with data := [] })

/-- LINE_ABORT: the numbers of PUBLISH and REPLY entries removed (R135). -/
def State.lineAbort (l : LineId) (s : State) : State :=
  (s.modifyLine l LineState.abort).complete .ok
    [byteOf ((s.line l).data.countP DataEntry.isPublish), byteOf ((s.line l).data.countP fun e => !e.isPublish)]

/-- SET_LINE (R60). -/
def execSetLine (fields : LineArg) (s : State) : Answer :=
  whilePowered (hostCommand 13 inService (decodeSettings fields) fun a => State.setLineSettings a.1 a.2) s

/-- READ_LINE (R61). -/
def execReadLine (line : Byte) (s : State) : Answer :=
  whilePowered (hostCommand 1 inService (decodeLine line) State.readLineState) s

/-- READ_COUNTERS (R86). -/
def execReadCounters (line clear : Byte) (s : State) : Answer :=
  whilePowered (hostCommand 2 inService (decodeReadCounters line clear) fun a => State.readCounters a.1 a.2) s

/-- LINE_HOLD (R78). -/
def execLineHold (line : Byte) (duration : Half) (restart : Byte) (s : State) : Answer :=
  whilePowered (hostCommand 4 inTraffic (decodeLineHold line duration restart) fun a => State.lineHold a.1 a.2.1 a.2.2) s

/-- LINE_ABORT (R135). -/
def execLineAbort (line : Byte) (s : State) : Answer :=
  whilePowered (hostCommand 1 inService (decodeLine line) State.lineAbort) s

end Sys2Proof.Machine
end

