-- ==== Sys2Proof/Machine/Frames.lean ====
section
/-! DEFINITION. The character of a field line (R62), the point frame (R179) and its CRC (R180): the frames the part builds, and
the judgement of a frame it has assembled (R64). -/

namespace Sys2Proof.Machine

/-! ## Characters -/

/-- The even parity bit of a byte: set when the number of ones among its bits is odd (R62). -/
def parityBit (b : Byte) : Bool :=
  b.getLsbD 0 ^^ b.getLsbD 1 ^^ b.getLsbD 2 ^^ b.getLsbD 3 ^^ b.getLsbD 4 ^^ b.getLsbD 5 ^^ b.getLsbD 6 ^^ b.getLsbD 7

/-- A byte as a character on the line (R62): a start bit, the data bits from the least significant, the parity bit, a stop bit. -/
def wireChar (b : Byte) : WireChar := 1#1 ++ BitVec.ofBool (parityBit b) ++ b ++ 0#1

/-- The eight data bits of a character, put back in their places (R62). -/
def charData (w : WireChar) : Byte := w.extractLsb' 1 8

/-- The parity bit agrees with the data bits, and the stop bit is at the idle level (R62). -/
def charSound (w : WireChar) : Bool := w.getLsbD 9 == parityBit (charData w) && w.getLsbD 10

/-- What the levels of one character time are to a receiver. -/
inductive Heard where
  | silence
  | good (char : Byte)
  | error
  | lineLow
  deriving DecidableEq, Repr

/-- The judgement of a character time (R62): with no start bit it holds no character; a line low throughout, with no stop
bit, is a break (R66; DEDUCED, log 26); a parity that does not agree or a stop bit that is not idle is a character error. -/
def readCharacter (w : WireChar) : Heard :=
  if w.getLsbD 0 then .silence
  else if w = 0 then .lineLow
  else if charSound w then .good (charData w)
  else .error

/-! ## The CRC and the frame -/

/-- One bit of the CRC register: shifted left, combined with 0x1021 if the bit shifted out was 1 (R180). -/
def crcShift (r : Half) : Half := if r.msb then (r <<< 1) ^^^ 0x1021 else r <<< 1

/-- One byte taken into the CRC register: placed on its upper eight bits, then eight shifts (R180). -/
def crcByte (r : Half) (b : Byte) : Half :=
  crcShift (crcShift (crcShift (crcShift (crcShift (crcShift (crcShift (crcShift (r ^^^ (b ++ 0#8)))))))))

/-- The CRC of a run of bytes, from 0xFFFF, with no final inversion (R180). -/
def crc (bytes : List Byte) : Half := bytes.foldl crcByte 0xFFFF

/-- The kind codes (R179). -/
def FrameKind.code : FrameKind → BitVec 4
  | .update => 1 | .query => 2 | .withdraw => 3 | .pause => 4 | .resume => 5 | .reply => 6 | .replyStale => 7

/-- The kinds the part receives, by code; every other code makes a frame bad (R64, R179). -/
def receivedKind (c : BitVec 4) : Option FrameKind :=
  if c = 1 then some .update else if c = 2 then some .query else if c = 3 then some .withdraw
  else if c = 4 then some .pause else if c = 5 then some .resume else none

/-- A frame's bytes before its CRC (R179). -/
def frameHead (kind : FrameKind) (source : Byte) (ident : Ident) (payload : List Byte) : List Byte :=
  [source, kind.code ++ ident.extractLsb' 16 4, ident.extractLsb' 8 8, ident.extractLsb' 0 8, byteOf payload.length] ++ payload

/-- A frame as the part sends it, with its CRC (R73, R179). -/
def buildFrame (kind : FrameKind) (source : Byte) (ident : Ident) (payload : List Byte) : List Byte :=
  let head := frameHead kind source ident payload
  head ++ halfBytes (crc head)

/-- The payload length that the fifth character of a frame holds (R62, R179). -/
def frameLength (chars : List Byte) : Nat := (chars.getD 4 0).toNat

/-- The length character holds a value above 8 (R64). -/
def badLength (chars : List Byte) : Bool := chars.length == 5 && 8 < frameLength chars

/-- The frame has reached its full length of 7 + N characters (R64). -/
def isWhole (chars : List Byte) : Bool := 5 ≤ chars.length && chars.length == 7 + frameLength chars

/-- The judgement of a whole frame: source 1 to 126 and not the part's own address, a received kind, an agreeing CRC (R64). -/
def judgeFrame (own : Byte) (chars : List Byte) : Option RxFrame :=
  match chars with
  | source :: second :: third :: fourth :: _ :: rest =>
    let n := frameLength chars
    if isNode source && source != own && halfBytes (crc (chars.take (5 + n))) == chars.drop (5 + n) then
      (receivedKind (second.extractLsb' 4 4)).map fun kind =>
        { kind := kind, source := source, ident := second.extractLsb' 0 4 ++ third ++ fourth, payload := rest.take n }
    else none
  | _ => none

end Sys2Proof.Machine
end

