-- ==== Sys2Proof/Machine/LineEvents.lean ====
section
/-! DEFINITION. The events on the lines: the receiver (R62 to R68), the pause set (R71), and the transmitter (R72 to R77, R79). -/

namespace Sys2Proof.Machine

/-! ## The transmitter -/

/-- The receiver once the transmitter stops sending: WAITING on an active line, else as it is (R67). -/
def LineState.afterSending (active : Bool) (ln : LineState) : LineState :=
  { ln with rx := if active then .waiting else ln.rx }

/-- The frame in flight has been sent (R74): a control frame moves the outstanding mark while the flow control acts (R69), and a
WAITING hold begins its break (R79). Whether it acts is judged at the completion alone: a control frame that was in flight when RUN was
left, and that completes after RUN has been entered again, moves the mark (DESIGN CHOICE, log 27). -/
def LineState.sent (active acts : Bool) (item : FlightItem) (ln : LineState) : LineState :=
  let marked :=
    match item with
    | .control c => { ln with flight := none, outstanding := if acts then c == Control.pause else ln.outstanding }
    | .data _ => { ln with flight := none }
  (marked.afterSending active).holdAfterFlight

/-- FRAME_SENT on a line whose transmitter is sending. -/
def State.sentStep (l : LineId) (s : State) : State :=
  match (s.line l).flight with
  | some f => if f.sending then s.modifyLine l (·.sent (s.lineActive l) s.flowActs f.item) else s
  | none => s

/-- What a dropped frame counts, by its kind (R76). -/
def LineState.countDrop (acts : Bool) (item : FlightItem) (ln : LineState) : LineState :=
  match item with
  | .control _ => ln.flowAgain acts
  | .data (.publish _) => ln.count .skipped
  | .data (.reply _ _) => ln.count .unanswered

/-- A collision on a line (R75): counted; the frame waits in backoff, or on its fourth collision is dropped (R76). -/
def LineState.collide (active acts : Bool) (f : Flight) (ln : LineState) : LineState :=
  let stopped := (ln.count .collisions).afterSending active
  if f.collisions + 1 < 4 then
    { stopped with flight := some { f with collisions := f.collisions + 1, sending := false, echoed := 0 } }
  else (LineState.countDrop acts f.item { stopped with flight := none }).holdAfterFlight

/-- COLLISION on a line whose transmitter is sending; the drop sets LINE_COLLISION (R75, R76). -/
def State.collisionStep (l : LineId) (s : State) : State :=
  match (s.line l).flight with
  | some f =>
    if f.sending then
      let t := s.modifyLine l (·.collide (s.lineActive l) s.flowActs f)
      if f.collisions + 1 < 4 then t else t.raise .lineCollision
    else s
  | none => s

/-- The data entry that comes first in the send order: highest priority, then earliest (R130). -/
def firstToSend (data : List DataEntry) : Option DataEntry :=
  match data.find? (·.priority == 3) with
  | some e => some e
  | none =>
    match data.find? (·.priority == 2) with
    | some e => some e
    | none =>
      match data.find? (·.priority == 1) with
      | some e => some e
      | none => data.find? (·.priority == 0)

/-- The bytes of a control frame: identifier 0, length 0 (R73). -/
def controlBytes (node : Byte) : Control → List Byte
  | .pause => buildFrame .pause node 0 []
  | .resume => buildFrame .resume node 0 []

/-- The bytes of a data frame (R134); a PUBLISH entry's identifier is read from the directory at the take. -/
def State.dataBytes (node : Byte) (e : DataEntry) (s : State) : List Byte :=
  match e.item with
  | .publish h => buildFrame .update node (((s.slotAt h.slot).key.map Key.ident).getD 0) e.snapshot
  | .reply stale ident => buildFrame (if stale then .replyStale else .reply) node ident e.snapshot

/-- A frame becomes the frame in flight, with a collision count of 0, and is being sent (R73, R67). -/
def LineState.launch (item : FlightItem) (bytes : List Byte) (ln : LineState) : LineState :=
  { ln with rx := .echo, flight := some { item := item, bytes := bytes, collisions := 0, sending := true, echoed := 0 } }

/-- The conditions for a start (R73), the entry apart. The idle time beyond READY is the event's own (log 7). -/
def State.mayStart (l : LineId) (s : State) : Bool :=
  s.lineActive l && s.mode == .run && (s.line l).hold == .off && (s.line l).flight == none && (s.line l).rx == .ready

/-- The start of a frame (R73): the control entry first; a data entry only while the pause set is empty (R72). -/
def State.startStep (l : LineId) (s : State) : State :=
  let ln := s.line l
  if s.mayStart l then
    match ln.control with
    | some c => s.setLine l (LineState.launch (.control c) (controlBytes ln.settings.node c) { ln with control := none })
    | none =>
      if ln.pauseSet = [] then
        match firstToSend ln.data with
        | some e => s.setLine l (LineState.launch (.data e.item) (s.dataBytes ln.settings.node e) { ln with data := ln.data.erase e })
        | none => s
      else s
  else s

/-- The receiver lets a retry begin: READY on an active line (log 20); on another line it stays STOPPED (R67, R75). -/
def LineState.mayRetry (active : Bool) (ln : LineState) : Bool := !active || ln.rx == .ready

/-- The frame in flight is sent again from its first character after its backoff (R75). -/
def State.retryStep (l : LineId) (s : State) : State :=
  let ln := s.line l
  match ln.flight with
  | some f =>
    if !f.sending && ln.mayRetry (s.lineActive l) then
      s.setLine l { ln with flight := some { f with sending := true, echoed := 0 }, rx := if s.lineActive l then .echo else ln.rx }
    else s
  | none => s

/-- One more character has been compared without a mismatch (R74). -/
def Flight.advance (f : Flight) : Flight := { f with echoed := f.echoed + 1 }

/-- A character heard while a frame is being sent (R74, R75): equal to the character sent, parity and stop bit included, it goes
on to the next, and the last one makes the frame sent; another one is a collision. -/
def State.echoStep (l : LineId) (f : Flight) (heard : WireChar) (s : State) : State :=
  if (f.bytes[f.echoed]?).map wireChar = some heard then
    if f.echoed + 1 = f.bytes.length then s.sentStep l else s.modifyLine l fun ln => { ln with flight := some f.advance }
  else s.collisionStep l

/-! ## The receiver -/

/-- A frame judged bad: BAD_FRAME counted once, to DISCARDING (R64, R65). -/
def LineState.spoil (ln : LineState) : LineState := { ln.count .badFrame with rx := .discarding }

/-- The receiver with the characters of a frame so far (R64): bad length, judgement of the whole, or on with the assembly. -/
def LineState.gather (chars : List Byte) (ln : LineState) : LineState :=
  if badLength chars then ln.spoil
  else if isWhole chars then
    match judgeFrame ln.settings.node chars with
    | some f => { ln with rx := .complete f }
    | none => ln.spoil
  else { ln with rx := .assembling chars }

/-- The characters of the frame being gathered, with one more, when the receiver is READY or ASSEMBLING. -/
def Rx.charsWith (heard : Byte) : Rx → Option (List Byte)
  | .ready => some [heard]
  | .assembling chars => some (chars ++ [heard])
  | _ => none

/-- A character at the receiver (R63 to R65): gathered in READY and ASSEMBLING, overlong in COMPLETE, ignored elsewhere. -/
def LineState.receive (heard : Byte) (ln : LineState) : LineState :=
  match ln.rx with
  | .ready => ln.gather [heard]
  | .assembling chars => ln.gather (chars ++ [heard])
  | .complete _ => ln.spoil
  | _ => ln

/-- A character error at the receiver (R64, R65). -/
def LineState.receiveError (ln : LineState) : LineState :=
  match ln.rx with
  | .ready => ln.spoil
  | .assembling _ => ln.spoil
  | .complete _ => ln.spoil
  | _ => ln

/-- A break at the receiver (R66, R63): counted once and to WAITING; in ECHO not counted; in STOPPED nothing. -/
def LineState.receiveBreak (ln : LineState) : LineState :=
  match ln.rx with
  | .stopped => ln
  | .echo => { ln with rx := .waiting }
  | _ => { ln.count .badFrame with rx := .waiting }

/-- The levels of a character time at the receiver: a good character, a character error, a break, or nothing (R62, R66). -/
def LineState.receiveLevels (heard : WireChar) (ln : LineState) : LineState :=
  match readCharacter heard with
  | .silence => ln
  | .good c => ln.receive c
  | .error => ln.receiveError
  | .lineLow => ln.receiveBreak

/-- A character heard on a line: compared while the transmitter sends (R67), else received (R63). It never wakes the part: a start bit
on a watched line is the row WAKE_EVENT, and an echo in STANDBY is none by itself (DESIGN CHOICE, log 28). -/
def State.hear (l : LineId) (heard : WireChar) (s : State) : State :=
  match (s.line l).flight with
  | some f => if f.sending then s.echoStep l f heard else s.modifyLine l (·.receiveLevels heard)
  | none => s.modifyLine l (·.receiveLevels heard)

/-- A character error heard on a line: a collision while the transmitter sends (R75), else the receiver's (R64). -/
def State.hearError (l : LineId) (s : State) : State :=
  if (s.line l).isSending then s.collisionStep l else s.modifyLine l LineState.receiveError

/-- The frame with these characters is judged bad by its length or as a whole (R64). -/
def judgedBad (own : Byte) (chars : List Byte) : Bool := badLength chars || (isWhole chars && (judgeFrame own chars).isNone)

/-- BAD_FRAME (R64): a character error, or a good character that makes the frame in assembly bad; a character that does neither
is no such event (log 1), and a break is BREAK's. -/
def State.badFrameStep (l : LineId) (heard : WireChar) (s : State) : State :=
  match readCharacter heard with
  | .error => s.hearError l
  | .good c =>
    match (s.line l).rx.charsWith c with
    | some chars => if judgedBad (s.line l).settings.node chars then s.modifyLine l LineState.spoil else s
    | none => s
  | _ => s

/-- A gap cuts off a frame in assembly: truncated, straight to READY (R64). -/
def LineState.truncate (ln : LineState) : LineState :=
  match ln.rx with
  | .assembling _ => { ln.count .badFrame with rx := .ready }
  | _ => ln

/-- A character before the closing gap of a complete frame: overlong (R65). -/
def LineState.overlong (ln : LineState) : LineState :=
  match ln.rx with
  | .complete _ => ln.spoil
  | _ => ln

/-- A break on a line: a collision while the transmitter sends (R75), else the receiver's (R66). -/
def State.breakStep (l : LineId) (s : State) : State :=
  if (s.line l).isSending then s.collisionStep l else s.modifyLine l LineState.receiveBreak

/-! ## Delivery -/

/-- A good data frame offered to the receive queue (R68): it joins at the tail, or is dropped with OVERRUN and LINE_OVERRUN. -/
def State.joinQueue (l : LineId) (f : RxFrame) (s : State) : State :=
  if (s.line l).rxQueue.length < 8 then
    s.modifyLine l fun ln => LineState.flowOnJoin s.flowActs { ln with rxQueue := ln.rxQueue ++ [f] }
  else (s.count l .overrun).raise .lineOverrun

/-- A node joins the pause set, or has its deadline renewed (R71). -/
def LineState.pauseFrom (node : Byte) (deadline : Tick) (ln : LineState) : LineState :=
  if ln.pauseSet.any fun e => e.1 == node then
    { ln with pauseSet := ln.pauseSet.map fun e => if e.1 = node then (node, deadline) else e }
  else { ln with pauseSet := ln.pauseSet ++ [(node, deadline)] }

/-- A node leaves the pause set (R71). -/
def LineState.resumeFrom (node : Byte) (ln : LineState) : LineState :=
  { ln with pauseSet := ln.pauseSet.filter fun e => e.1 != node }

/-- The kinds of frame that go to the receive queue (R65). -/
def FrameKind.isData : FrameKind → Bool
  | .update => true | .query => true | .withdraw => true | _ => false

/-- The receiver goes to READY after a delivery (R65). -/
def State.receiverReady (l : LineId) (s : State) : State := s.modifyLine l fun ln => { ln with rx := .ready }

/-- The delivery of a complete frame by its kind (R65). -/
def State.deliver (l : LineId) (f : RxFrame) (s : State) : State :=
  match f.kind with
  | .pause => (s.modifyLine l fun ln => ln.pauseFrom f.source (s.tick + ln.settings.timeout.setWidth 32)).receiverReady l
  | .resume => (s.modifyLine l (·.resumeFrom f.source)).receiverReady l
  | _ => (s.joinQueue l f).receiverReady l

/-- A frame in COMPLETE of a kind that the event names is delivered; otherwise there is no such event (log 1). -/
def State.deliverIf (p : FrameKind → Bool) (l : LineId) (s : State) : State :=
  match (s.line l).rx with
  | .complete f => if p f.kind then s.deliver l f else s
  | _ => s

/-- Two character times of idle at a receiver (R63): WAITING and DISCARDING go to READY; a frame in assembly is truncated (R64) and a
complete one delivered (R65), the events that a gap is in those states (log 17). -/
def State.idleGap (l : LineId) (s : State) : State :=
  match (s.line l).rx with
  | .waiting => s.receiverReady l
  | .discarding => s.receiverReady l
  | .assembling _ => s.modifyLine l LineState.truncate
  | .complete f => s.deliver l f
  | _ => s

/-! ## The meanings -/

/-- DATA_FRAME_DELIVERY (R68, R65). -/
def execDataFrameDelivery (line : LineId) (s : State) : Answer := whilePowered (State.deliverIf FrameKind.isData line) s

/-- PAUSE (R71, R65). -/
def execPause (line : LineId) (s : State) : Answer := whilePowered (State.deliverIf (· == .pause) line) s

/-- RESUME (R71, R65). -/
def execResume (line : LineId) (s : State) : Answer := whilePowered (State.deliverIf (· == .resume) line) s

/-- BAD_FRAME (R62, R64). -/
def execBadFrame (line : LineId) (heard : WireChar) (s : State) : Answer := whilePowered (·.badFrameStep line heard) s

/-- TRUNCATED_FRAME (R64). -/
def execTruncatedFrame (line : LineId) (s : State) : Answer := whilePowered (·.modifyLine line LineState.truncate) s

/-- OVERLONG_FRAME (R65). -/
def execOverlongFrame (line : LineId) (s : State) : Answer := whilePowered (·.modifyLine line LineState.overlong) s

/-- BREAK (R66). -/
def execLineBreak (line : LineId) (s : State) : Answer := whilePowered (·.breakStep line) s

/-- RECEIVER_IDLE_GAP (R63). -/
def execReceiverIdleGap (line : LineId) (s : State) : Answer := whilePowered (·.idleGap line) s

/-- FRAME_START (R73). -/
def execFrameStart (line : LineId) (s : State) : Answer := whilePowered (·.startStep line) s

/-- FRAME_SENT (R74). -/
def execFrameSent (line : LineId) (s : State) : Answer := whilePowered (·.sentStep line) s

/-- COLLISION (R75, R76). -/
def execCollision (line : LineId) (s : State) : Answer := whilePowered (·.collisionStep line) s

/-- BACKOFF_RETRY (R75). -/
def execBackoffRetry (line : LineId) (s : State) : Answer := whilePowered (·.retryStep line) s

/-- CHARACTER_RECEIVED (R62 to R64, R67). -/
def execCharacterReceived (line : LineId) (heard : WireChar) (s : State) : Answer := whilePowered (·.hear line heard) s

end Sys2Proof.Machine
end

