-- ==== Sys2Proof/Machine/Modes.lean ====
section
/-! DEFINITION. Modes, transitions and resets (chapter 11): REQUEST_MODE and the steps of its transitions, wake and resume,
power-on and pin reset, the soft reset. -/

namespace Sys2Proof.Machine

/-! ## Requesting a mode -/

/-- REQUEST_MODE completes with the mode reached (R172). -/
def State.modeReached (s : State) : State := s.complete .ok [s.mode.code]

/-- REQUEST_MODE after its checks (R172): during a wake's resume it waits; a target equal to the current mode is answered at
once; from STANDBY to RUN or LISTEN it begins the resume (R175); otherwise the slot stays PENDING for the step of the
immediate transition (R173) or of the drain (R174), which sets the target mode. -/
def State.requestMode (target : Mode) (s : State) : State :=
  let waiting := { s with slot := .pending (.requestMode target) }
  if s.transition.isSome then waiting
  else if target = s.mode then s.modeReached
  else if s.mode = .standby && (target == .run || target == .listen) then { waiting with transition := some .resume, target := target }
  else waiting

/-- The transitions that are immediate (R172). -/
def isImmediate : Mode → Mode → Bool
  | .config, .run => true
  | .config, .listen => true
  | .config, .standby => true
  | .run, .listen => true
  | .listen, .run => true
  | .standby, .config => true
  | _, _ => false

/-- The transitions that are drains (R172). -/
def isDrain : Mode → Mode → Bool
  | .run, .config => true
  | .run, .standby => true
  | .listen, .config => true
  | .listen, .standby => true
  | _, _ => false

/-- The mode becomes the target, and so does the target mode. -/
def State.enterMode (m : Mode) (s : State) : State := { s with mode := m, target := m }

/-- The tick unit starts with its prescale at 0 (R116). -/
def State.startTicks (s : State) : State := { s with prescale := 0 }

/-- CONFIG to RUN or LISTEN: a requested commit is installed, the mode changes, enabled lines have their enable events, ticks start (R173). -/
def State.configToTraffic (target : Mode) (s : State) : State :=
  (((if s.commitRequested then s.install else s).enterMode target).enableLines).startTicks

/-- RUN to LISTEN: transmit queues and pause sets empty, outstanding marks clear, the mode changes (R173). -/
def State.runToListen (s : State) : State := (s.mapLines fun _ ln => ln.silence).enterMode .listen

/-- The effects of an immediate transition, whole (R173). -/
def State.immediate (target : Mode) (s : State) : State :=
  match s.mode, target with
  | .config, .standby => { s with origin := some .config }.enterMode .standby
  | .standby, _ => { s with origin := none }.enterMode target
  | .config, _ => s.configToTraffic target
  | .run, _ => s.runToListen
  | _, _ => s.enterMode target

/-- The mode request that the command slot holds. -/
def State.requestedMode (s : State) : Option Mode :=
  match s.slot with
  | .pending (.requestMode t) => some t
  | _ => none

/-- The step of an immediate transition that the slot's REQUEST_MODE asks for, with no transition in flight (R173). -/
def State.immediateStep (s : State) : State :=
  match s.requestedMode with
  | some t => if s.transition = none && isImmediate s.mode t then (s.immediate t).modeReached else s
  | none => s

/-! ## The drain -/

/-- What the start of a drain does to a line: receiver stopped, queues and pauses emptied, hold cancelled (R174, R83). A frame in flight goes on. -/
def LineState.drained (ln : LineState) : LineState := { ln.silence with rx := .stopped, hold := .off }

/-- The start of a drain to a target (R174). -/
def State.startDrain (target : Mode) (s : State) : State :=
  { (s.mapLines fun _ ln => ln.drained).abandonSweep with transition := some .drain, target := target }

/-- The start of the drain that the slot's REQUEST_MODE asks for (R174). -/
def State.drainStep (s : State) : State :=
  match s.requestedMode with
  | some t => if s.transition = none && isDrain s.mode t then s.startDrain t else s
  | none => s

/-- Every receive queue is empty (R174). -/
def State.queuesEmpty (s : State) : Bool :=
  (s.line 0).rxQueue.isEmpty && (s.line 1).rxQueue.isEmpty && (s.line 2).rxQueue.isEmpty && (s.line 3).rxQueue.isEmpty

/-- The end of a drain (R174): the tick counter freezes, the prescale is discarded, STANDBY keeps its origin, the mode becomes the target, REQUEST_MODE completes. -/
def State.endDrain (s : State) : State :=
  ({ s with prescale := 0, transition := none, origin := if s.target == Mode.standby then some s.mode else none }.enterMode s.target).modeReached

/-- The end of a drain in flight once every receive queue is empty. -/
def State.drainEndStep (s : State) : State :=
  if s.transition = some .drain && s.queuesEmpty then s.endDrain else s

/-! ## STANDBY, wake and resume -/

/-- A line is watched for activity: in STANDBY entered from RUN or LISTEN, with wake and enabled both yes (R84). -/
def State.watched (l : LineId) (s : State) : Bool :=
  s.mode == .standby && (s.origin == some .run || s.origin == some .listen) && (s.line l).settings.wake && (s.line l).settings.enabled

/-- A wake event (R176): with no transition in flight WAKE is set and a resume to the origin mode begins; otherwise it is
ignored. A REQUEST_MODE for CONFIG that was taken first counts as a transition in flight (DEDUCED, log 15). It acts while the
line's own transmitter is sending too, since R84 does not say whether the echo of the part's own frame is a wake (DESIGN CHOICE, log 28). -/
def State.wake (l : LineId) (s : State) : State :=
  if s.watched l && s.transition == none && s.requestedMode.isNone then
    { s.raise .wake with transition := some .resume, target := s.origin.getD s.mode }
  else s

/-- A REQUEST_MODE in the slot when a resume completes (R172, R175): it completes if the mode reached is its target; one that
waited for a wake's resume and asks for another mode stays PENDING for the step of its transition. -/
def State.settleRequest (s : State) : State :=
  match s.requestedMode with
  | some t => if t = s.mode then s.modeReached else s
  | none => s

/-- The completion of a resume (R175). -/
def State.completeResume (s : State) : State :=
  (({ s with origin := none, transition := none }.enterMode s.target).enableLines).startTicks.settleRequest

/-- The completion of a resume in flight. -/
def State.resumeStep (s : State) : State := if s.transition = some .resume then s.completeResume else s

/-! ## Resets -/

/-- Table initialization (R22): every slot cleared; layout, victim pointer, hold list and purge at their reset values. -/
def State.initTable (s : State) : State :=
  { s with slots := Vector.replicate 512 Slot.reset, layout := { b := 384, l := 64, e := 64 }, victim := 384, holds := [],
           purge := none }

/-- Every block takes its power-on and pin reset values (R177), the fault capture and the level of RESET_N apart. What waits
in the model's queue and the bytes of the last transaction are no part of any block. -/
def State.hardReset (s : State) : State :=
  { State.reset with resetHeld := s.resetHeld, capture := s.capture, miso := s.miso, freeCount := s.freeCount, pending := s.pending }

/-- STARTING ends (R177): the table has been initialized, the start-up state is complete, and the mode is CONFIG. -/
def State.startupDone (s : State) : State :=
  { s.initTable with startup := .complete, mode := .config, target := .config, origin := none }

/-- What a soft reset leaves of a line: its settings (R88). -/
def LineState.softReset (ln : LineState) : LineState := LineState.withSettings ln.settings

/-- What a soft reset leaves of a slot (R23, R178): a learned record is retired without notice; a kept record's stamp becomes
0 and an export record's next due its period, both in place, but for a FAULTED record; marks clear. -/
def Slot.softReset (x : Slot) : Slot :=
  let y := if x.occupied && x.kind == some .learned then x.emptied else x
  let z :=
    if y.visible then
      { y with body := { y.body with
          stamp := 0
          nextDue := if y.kind = some .exported then y.body.period.setWidth 32 else y.body.nextDue } }
    else y
  { z with held := false, expiredHold := false, missed := false }

/-- The soft reset, as one step (R178, with R23, R42, R48, R88, R128, R141 and the tables of chapter 10). -/
def State.softResetNow (s : State) : State :=
  let t := (s.mapLines fun _ ln => ln.softReset).mapSlots Slot.softReset
  { t with
    sweep := none, sweepOwed := false, transition := none, mode := .config, target := .config, origin := none,
    startup := .complete, notices := [], holds := [], purge := none, victim := s.layout.b, tick := 0, prescale := 0,
    conditions := .clear, arb := { s.arb with run := 0, pointer := 3, sweepWait := 0 }, commitRequested := false,
    slot := .idle, refused := false }

/-- The soft reset that a RESET in the command slot asks for (R178). -/
def State.softResetStep (s : State) : State := if s.slot = .pending .reset then s.softResetNow else s

/-! ## The meanings -/

/-- POWER_ON_RESET (R177): every block at its power-on values, the fault capture emptied, STARTING. The level of RESET_N is
the pin's own (log 13). -/
def execPowerOnReset (s : State) : Answer := .next { s.hardReset with capture := none }

/-- PIN_RESET (R177): RESET_N goes low and every block is held at its reset values; the fault capture is kept (R170). -/
def execPinReset (s : State) : Answer := .next { s.hardReset with resetHeld := true }

/-- RESET_N_RELEASE (R177): the part is in STARTING with its reset values. -/
def execResetNRelease (s : State) : Answer := .next (if s.resetHeld then { s.hardReset with resetHeld := false } else s)

/-- STARTUP_COMPLETE (R177, R22). -/
def execStartupComplete (s : State) : Answer := whilePowered (fun t => if t.mode = .starting then t.startupDone else t) s

/-- The integrity of a body after an upset (R52). -/
def Integrity.upset : Integrity → Integrity
  | .clean => .single
  | _ => .double

/-- UPSET (R52). -/
def execUpset (slot : Nat) (s : State) : Answer :=
  whilePowered (·.modifySlot slot fun x => { x with integrity := x.integrity.upset }) s

/-- REQUEST_MODE (R172). -/
def execRequestMode (target : Byte) (s : State) : Answer :=
  whilePowered (hostCommand 1 inAnyMode (decodeMode target) State.requestMode) s

/-- RESET: taken, and the soft reset is made to wait for its step (R178). -/
def execReset (s : State) : Answer :=
  whilePowered (hostCommand 0 inAnyMode (some ()) fun _ t => { t with slot := .pending .reset }) s

/-- SOFT_RESET (R178). -/
def execSoftReset (s : State) : Answer := whilePowered State.softResetStep s

/-- IMMEDIATE_TRANSITION (R173). -/
def execImmediateTransition (s : State) : Answer := whilePowered State.immediateStep s

/-- DRAIN_START (R174). -/
def execDrainStart (s : State) : Answer := whilePowered State.drainStep s

/-- DRAIN_END (R174). -/
def execDrainEnd (s : State) : Answer := whilePowered State.drainEndStep s

/-- WAKE_EVENT (R176, R84). -/
def execWakeEvent (line : LineId) (s : State) : Answer := whilePowered (·.wake line) s

/-- RESUME_COMPLETE (R175). -/
def execResumeComplete (s : State) : Answer := whilePowered State.resumeStep s

end Sys2Proof.Machine
end

