-- ==== Sys2Proof/Machine/Records.lean ====
section
/-! DEFINITION. The table commands (R44, R147 to R156, R15 to R21): how each is taken at the port, and the engine operation
that carries it out. -/

namespace Sys2Proof.Machine

/-! ## Shared steps -/

/-- The common steps of the commands that take a handle (R147): a handle that is not current answers STALE_HANDLE; a FAULTED record goes to `faulted`. -/
def State.onRecord (h : Handle) (faulted next : State → State) (s : State) : State :=
  if !s.isCurrent h then s.complete .staleHandle []
  else if (s.slotAt h.slot).state = .faulted then faulted s
  else next s

/-- A table command reads the record's body (R53): a double error goes to `lost` once the record is FAULTED (R56), otherwise the command goes on. -/
def State.onBody (h : Handle) (lost next : State → State) (s : State) : State :=
  let t := s.checkBody .command h.slot
  if s.bodyLost h.slot then lost t else next t

/-- The answer FAULTED with an empty body (R181). -/
def State.answerFaulted (s : State) : State := s.complete .faulted []

/-! ## CREATE and FIND -/

/-- The body of a record made by CREATE (R16). -/
def createdBody (exported : Bool) (p : Policy) (now : Tick) : Body :=
  let base := { Body.empty with stamp := now, limit := p.limit, owner := p.owner, updateNotice := p.updateNotice, edge := p.edge }
  match exported, decodeExport p with
  | true, some (set, priority) =>
    { base with period := p.period, lineSet := set, priority := priority, nextDue := now + p.period.setWidth 32 }
  | _, _ => base

/-- A slot that becomes occupied (R10): the next generation, the marks of the record clear, the missed mark kept, the body written whole. -/
def Slot.occupy (state : RecState) (kind : Kind) (key : Key) (body : Body) (x : Slot) : Slot :=
  { x with state := state, kind := some kind, gen := x.gen + 1, key := some key, held := false, expiredHold := false,
           body := body, integrity := .clean }

/-- The kind of record that CREATE makes (R148). -/
def createdKind (exported : Bool) : Kind := if exported then .exported else .bound

/-- The operation of CREATE: KEY_IN_USE, REGION_FULL, or a NEW record in the lowest EMPTY slot of its region (R16, R148). -/
def State.opCreate (exported : Bool) (key : Key) (p : Policy) (s : State) : State :=
  if (s.lookup key).isSome then s.complete .keyInUse []
  else
    match s.firstEmpty (createdKind exported) with
    | none => s.complete .regionFull []
    | some i =>
      let t := s.modifySlot i (Slot.occupy .new (createdKind exported) key (createdBody exported p s.tick))
      t.complete .ok (handleBytes (t.handleAt i))

/-- The operation of FIND (R149). -/
def State.opFind (key : Key) (s : State) : State :=
  match s.lookup key with
  | none => s.complete .notFound []
  | some i =>
    s.complete .ok (handleBytes (s.handleAt i) ++ [(s.slotAt i).state.code, kindCode (s.slotAt i).kind, byteOf (s.overlapCount key)])

/-! ## READ, WRITE, MODIFY, RETIRE -/

/-- READ of a FAULTED record: FAULTED with the directory part (R150). -/
def State.answerDirectory (i : Nat) (s : State) : State := s.complete .faulted (directoryImage i (s.slotAt i))

/-- The operation of READ (R150). -/
def State.opRead (h : Handle) (s : State) : State :=
  s.onRecord h (·.answerDirectory h.slot)
    (·.onBody h (·.answerDirectory h.slot) fun t => t.complete .ok (recordImage h.slot (t.slotAt h.slot) (t.holdOf h.slot)))

/-- The slot after a host WRITE (R151). -/
def Slot.written (value : List Byte) (now : Tick) (x : Slot) : Slot :=
  { x with state := .fresh, integrity := .clean, body := { x.body with value := some value, stamp := now, source := .host } }

/-- The operation of WRITE, with the publication of publish-now in RUN (R151, R133). -/
def State.opWrite (h : Handle) (value : List Byte) (publishNow : Bool) (s : State) : State :=
  s.onRecord h State.answerFaulted (·.onBody h State.answerFaulted fun t =>
    let u := t.modifySlot h.slot (Slot.written value t.tick)
    let v := if (t.slotAt h.slot).kind = some .exported && publishNow && t.mode == .run then u.publish h.slot else u
    v.complete .ok [])

/-- The body after a MODIFY (R152): the policies; for an export record line set and priority, and, with a period that differs, next due. -/
def modifiedBody (p : Policy) (set : Option (LineSet × Fin 4)) (now : Tick) (b : Body) : Body :=
  let base := { b with limit := p.limit, owner := p.owner, updateNotice := p.updateNotice, edge := p.edge }
  match set with
  | none => base
  | some (lines, priority) =>
    let chosen := { base with lineSet := lines, priority := priority }
    if p.period = b.period then chosen else { chosen with period := p.period, nextDue := now + p.period.setWidth 32 }

/-- The line set and priority that MODIFY gives a record: those of an export record (R152). -/
def modifiedSet (kind : Option Kind) (p : Policy) : Option (LineSet × Fin 4) :=
  if kind = some .exported then decodeExport p else none

/-- PUBLISH entries on the lines that a MODIFY leaves out of the line set are removed (R137). -/
def State.dropLeftLines (h : Handle) (old new : LineSet) (s : State) : State :=
  s.mapLines fun l ln => if lineIn old l && !lineIn new l then ln.dropPublish h else ln

/-- The operation of MODIFY (R152). -/
def State.opModify (h : Handle) (p : Policy) (s : State) : State :=
  s.onRecord h State.answerFaulted fun r =>
    let kind := (r.slotAt h.slot).kind
    if kind = some .exported && (decodeExport p).isNone then r.complete .badArgument []
    else
      r.onBody h State.answerFaulted fun t =>
        let old := (t.slotAt h.slot).body
        let new := modifiedBody p (modifiedSet kind p) t.tick old
        ((t.modifySlot h.slot fun x => { x with body := new, integrity := .clean }).dropLeftLines h old.lineSet new.lineSet).complete .ok []

/-- The operation of RETIRE: in any state, FAULTED included, with no notice (R153). -/
def State.opRetire (h : Handle) (s : State) : State :=
  if s.isCurrent h then (s.retire h.slot).complete .ok [] else s.complete .staleHandle []

/-! ## HOLD and RELEASE -/

/-- The operation of HOLD (R155). -/
def State.opHold (h : Handle) (limit : Byte) (s : State) : State :=
  s.onRecord h State.answerFaulted fun r =>
    if (r.slotAt h.slot).held then r.complete .alreadyHeld []
    else if 16 ≤ r.holds.length then r.complete .holdLimit []
    else
      let entry : HoldEntry :=
        { slot := h.slot, gen := h.gen, start := r.tick, limit := limit, update := none, superseded := 0 }
      ({ r with holds := r.holds ++ [entry] }.modifySlot h.slot fun x => { x with held := true, expiredHold := false }).complete
        .ok (tickBytes r.tick)

/-- RELEASE of a held record with its hold entry (R156). -/
def State.releaseHeld (h : Handle) (apply : Bool) (e : HoldEntry) (s : State) : State :=
  let body := [boolByte e.update.isSome, e.superseded]
  if apply && e.update.isSome then
    s.onBody h State.answerFaulted fun t => ((t.applyPending h.slot e.update).dropHold h.slot).complete .ok body
  else (s.dropHold h.slot).complete .ok body

/-- The operation of RELEASE (R156). A held mark without an entry, which R154 rules out, is released as an empty hold. -/
def State.opRelease (h : Handle) (apply : Bool) (s : State) : State :=
  s.onRecord h State.answerFaulted fun r =>
    let x := r.slotAt h.slot
    if x.held then
      match r.holdOf h.slot with
      | some e => r.releaseHeld h apply e
      | none => (r.dropHold h.slot).complete .ok [0, 0]
    else if x.expiredHold then (r.modifySlot h.slot fun y => { y with expiredHold := false }).complete .tooLate []
    else r.complete .notHeld []

/-! ## SET_LAYOUT -/

/-- An occupied bound or export record would lie outside its region under a new layout (R15). -/
def State.layoutConflict (y : Layout) (s : State) : Bool :=
  (List.range 512).any fun i =>
    (s.slotAt i).occupied &&
      (((s.slotAt i).kind == some .bound && y.b ≤ i) || ((s.slotAt i).kind == some .exported && i < y.b + y.l))

/-- The slot holds a learned record, in any state (R15, R23). -/
def Slot.isLearned (x : Slot) : Bool := x.occupied && x.kind == some .learned

/-- How many learned records there are. -/
def State.learnedCount (s : State) : Nat := (List.range 512).countP fun i => (s.slotAt i).isLearned

/-- The operation of SET_LAYOUT (R15). -/
def State.opSetLayout (y : Layout) (s : State) : State :=
  if s.layoutConflict y then s.complete .layoutConflict []
  else
    { s.retireAll Slot.isLearned (.evicted .layout) with layout := y, victim := y.b }.complete .ok
      (halfBytes (BitVec.ofNat 16 s.learnedCount))

/-! ## The operation of the command slot -/

/-- The engine carries out the PENDING table command whole and stores its result (R44). PURGE goes by visits instead (R20). -/
def State.tableOperation (c : HostCommand) (s : State) : State :=
  match c with
  | .create exported key p => s.opCreate exported key p
  | .find key => s.opFind key
  | .read h => s.opRead h
  | .write h value publishNow => s.opWrite h value publishNow
  | .modify h p => s.opModify h p
  | .retire h => s.opRetire h
  | .hold h limit => s.opHold h limit
  | .release h apply => s.opRelease h apply
  | .setLayout y => s.opSetLayout y
  | .purge _ => s
  | .requestMode _ => s
  | .reset => s

/-- A table command that has passed the port's checks requests the engine (R44). When no line and no sweep requests it, the
engine is idle and grants the command at once (R49); otherwise the slot stays PENDING until TABLE_COMMAND_OPERATION (log 2). -/
def requestEngine (c : HostCommand) (s : State) : State :=
  let waiting := { s with slot := .pending c }
  if waiting.anyLineRequests || waiting.sweep.isSome then waiting else waiting.grantCommand.tableOperation c

/-- A granted operation of the command slot, if its command is not a PURGE. -/
def State.commandOperation (s : State) : State :=
  match s.slot with
  | .pending (.purge _) => s
  | .pending c => if s.grantNext = some .command then s.grantCommand.tableOperation c else s
  | _ => s

/-! ## PURGE -/

/-- A PURGE that is accepted starts at slot 0; its visits are grants of their own (R19). -/
def State.startPurge (f : PurgeFilter) (s : State) : State :=
  { s with slot := .pending (.purge f), purge := some { pos := 0, retired := 0 } }

/-- The region set of a PURGE names a region (R20). -/
def PurgeFilter.names (f : PurgeFilter) : Kind → Bool
  | .bound => f.bound
  | .learned => f.learned
  | .exported => f.exported

/-- A PURGE visit retires the record of a slot: region, line and state pass its filters (R20). -/
def PurgeFilter.passes (f : PurgeFilter) (region : Kind) (x : Slot) : Bool :=
  x.occupied && f.names region && (f.line == none || (x.key.map Key.line) == some f.line) &&
  (if x.state = .faulted then f.faultedToo else !f.staleOnly || x.state == .stale)

/-- One visit of a PURGE at its position (R20); the visit to slot 511 completes the command. -/
def State.purgeVisitAt (f : PurgeFilter) (p : PurgeRun) (s : State) : State :=
  let hit := f.passes (s.layout.kindAt p.pos) (s.slotAt p.pos)
  let t := if hit then s.retire p.pos else s
  let n := if hit then p.retired + 1 else p.retired
  if p.pos + 1 < 512 then { t with purge := some { pos := p.pos + 1, retired := n } }
  else { t with purge := none }.complete .ok (halfBytes (BitVec.ofNat 16 n))

/-- A granted visit of the PURGE in the command slot. -/
def State.purgeStep (s : State) : State :=
  match s.slot, s.purge with
  | .pending (.purge f), some p => if s.grantNext = some .command then s.grantCommand.purgeVisitAt f p else s
  | _, _ => s

/-! ## The meanings -/

/-- TABLE_COMMAND_OPERATION (R44, R49, R50). -/
def execTableCommandOperation (s : State) : Answer := whilePowered State.commandOperation s

/-- CREATE (R148, R16). -/
def execCreate (region : Byte) (key : KeyArg) (policy : PolicyArg) (s : State) : Answer :=
  whilePowered (hostCommand 17 inService (decodeCreate region key policy) requestEngine) s

/-- FIND (R149). -/
def execFind (key : KeyArg) (s : State) : Answer :=
  whilePowered (hostCommand 7 inService ((decodeKey key).map HostCommand.find) requestEngine) s

/-- READ (R150). -/
def execRead (handle : HandleArg) (s : State) : Answer :=
  whilePowered (hostCommand 3 inService ((decodeHandle handle).map HostCommand.read) requestEngine) s

/-- The arguments of WRITE (R151). -/
def decodeWrite (handle : HandleArg) (value : ValueArg) (publishNow : Byte) : Option HostCommand := do
  let h ← decodeHandle handle
  let v ← decodeValue value
  let now ← decodeBool publishNow
  some (.write h v now)

/-- WRITE (R151). -/
def execWrite (handle : HandleArg) (value : ValueArg) (publishNow : Byte) (s : State) : Answer :=
  whilePowered (hostCommand 13 inService (decodeWrite handle value publishNow) requestEngine) s

/-- The arguments of MODIFY (R152). -/
def decodeModify (handle : HandleArg) (policy : PolicyArg) : Option HostCommand := do
  let h ← decodeHandle handle
  let p ← decodePolicy policy
  some (.modify h p)

/-- MODIFY (R152). -/
def execModify (handle : HandleArg) (policy : PolicyArg) (s : State) : Answer :=
  whilePowered (hostCommand 12 inService (decodeModify handle policy) requestEngine) s

/-- RETIRE (R153). -/
def execRetire (handle : HandleArg) (s : State) : Answer :=
  whilePowered (hostCommand 3 inService ((decodeHandle handle).map HostCommand.retire) requestEngine) s

/-- The arguments of HOLD: a limit of 0 is out of range (R155). -/
def decodeHold (handle : HandleArg) (limit : Byte) : Option HostCommand := do
  let h ← decodeHandle handle
  if limit = 0 then none else some (.hold h limit)

/-- HOLD (R155). -/
def execHold (handle : HandleArg) (limit : Byte) (s : State) : Answer :=
  whilePowered (hostCommand 4 inService (decodeHold handle limit) requestEngine) s

/-- The arguments of RELEASE: APPLY 0, DISCARD 1 (R156, R182). -/
def decodeRelease (handle : HandleArg) (choice : Byte) : Option HostCommand := do
  let h ← decodeHandle handle
  let discard ← decodeBool choice
  some (.release h !discard)

/-- RELEASE (R156). -/
def execRelease (handle : HandleArg) (choice : Byte) (s : State) : Answer :=
  whilePowered (hostCommand 4 inService (decodeRelease handle choice) requestEngine) s

/-- SET_LAYOUT (R15). -/
def execSetLayout (bound learned exported : Half) (s : State) : Answer :=
  whilePowered (hostCommand 6 inConfig ((decodeLayout bound learned exported).map HostCommand.setLayout) requestEngine) s

/-- PURGE (R19). -/
def execPurge (regions line filter faultedToo : Byte) (s : State) : Answer :=
  whilePowered (hostCommand 4 inService (decodePurge regions line filter faultedToo) State.startPurge) s

/-- PURGE_VISIT (R20). -/
def execPurgeVisit (s : State) : Answer := whilePowered State.purgeStep s

end Sys2Proof.Machine
end

