-- ==== Sys2Proof/Machine/Sweep.lean ====
section
/-! DEFINITION. Time: ticks and the sweep control (R116 to R122), the sweep's visits (R123 to R125, R157), the ends of waits
(R71, R80, R165), and the passing of one millisecond (log 4). -/

namespace Sys2Proof.Machine

/-! ## Ticks -/

/-- A tick at a pause set removes every entry whose deadline has come (R71). -/
def LineState.expirePauses (now : Tick) (ln : LineState) : LineState :=
  { ln with pauseSet := ln.pauseSet.filter fun e => !dueCome e.2 now }

/-- What a tick does to the sweep (R120): it starts one, owes one, or sets SWEEP_OVERRUN; in a drain, nothing. -/
def State.sweepControl (s : State) : State :=
  if s.transition = some .drain then s
  else if s.sweep.isNone then s.startSweep
  else if s.sweepOwed then s.raise .sweepOverrun
  else { s with sweepOwed := true }

/-- A tick (R116): the counter increases by 1, the prescale returns to 0, and the pause sets and the sweep control act. -/
def State.tickNow (s : State) : State :=
  let t := { s with tick := s.tick + 1, prescale := 0 }
  (t.mapLines fun _ ln => ln.expirePauses t.tick).sweepControl

/-- A tick occurs only while the counter runs: in RUN and LISTEN, drains included (R116). -/
def State.tickStep (s : State) : State := if s.takesFrames then s.tickNow else s

/-! ## The visit -/

/-- Ageing of the record in a slot at sweep now (R124). -/
def State.ageSlot (now : Tick) (i : Nat) (s : State) : State :=
  let x := s.slotAt i
  if (x.state == .new || x.state == .fresh) && x.body.limit != 0 && x.body.limit.toNat ≤ age x.body.stamp now then
    (s.modifySlot i fun y => { y with state := .stale }).postIf x.body.edge (s.handleAt i) .stale
  else s

/-- Hold expiry at sweep now (R124, R157). -/
def State.expireHold (now : Tick) (i : Nat) (s : State) : State :=
  match s.holdOf i with
  | some e =>
    if e.limit.toNat ≤ age e.start now then
      (((s.applyPending i e.update).dropHold i).modifySlot i fun y => { y with expiredHold := true }).post (s.handleAt i)
        .holdExpired
    else s
  | none => s

/-- A learned record that age eviction can reach: STALE and not held when the visit began (R125). -/
def Slot.evictable (x : Slot) : Bool := x.kind == some .learned && x.state == .stale && !x.held

/-- Age eviction at sweep now (R125). -/
def State.evictByAge (now : Tick) (i : Nat) (s : State) : State :=
  if s.learnedExpiry != 0 && s.learnedExpiry.toNat ≤ age (s.slotAt i).body.stamp now then s.retireWith (.evicted .age) i else s

/-- The next due of a published record, written with its body (R125, R58). -/
def Slot.scheduled (now : Tick) (x : Slot) : Slot :=
  { x with body := { x.body with nextDue := now + x.body.period.setWidth 32 }, integrity := .clean }

/-- Publication due at sweep now: published in RUN, not in LISTEN; the next due advances in both (R125). -/
def State.publishDue (now : Tick) (i : Nat) (s : State) : State :=
  let x := s.slotAt i
  if x.kind == some .exported && x.body.period != 0 && dueCome x.body.nextDue now then
    (if s.mode = .run then s.publish i else s).modifySlot i (Slot.scheduled now)
  else s

/-- The judgement of an occupied record whose body the visit has read (R123, 2 to 5). -/
def State.judgeSlot (now : Tick) (i : Nat) (s : State) : State :=
  let aged := (s.ageSlot now i).expireHold now i
  (if (s.slotAt i).evictable then aged.evictByAge now i else aged).publishDue now i

/-- The work of a visit (R123): a FAULTED slot is not read; every other body is checked; an EMPTY slot, and a record lost at
the check, are not judged further. -/
def State.visitSlot (now : Tick) (i : Nat) (s : State) : State :=
  if (s.slotAt i).state = .faulted then s
  else
    let t := s.checkBody .sweep i
    if (s.slotAt i).state = .empty || s.bodyLost i then t else t.judgeSlot now i

/-- The end of a sweep (R122): none in flight, or the owed sweep at once. -/
def State.endSweep (s : State) : State :=
  let t := { s with sweep := none, sweepOwed := false, arb := { s.arb with sweepWait := 0 } }
  if s.sweepOwed then t.startSweep else t

/-- The sweep position moves on; the visit to slot 511 ends the sweep (R123). -/
def State.advanceSweep (w : Sweep) (s : State) : State :=
  if w.pos + 1 < 512 then { s with sweep := some { w with pos := w.pos + 1 } } else s.endSweep

/-- A granted sweep visit. -/
def State.sweepStep (s : State) : State :=
  match s.sweep with
  | some w => if s.grantNext = some .sweep then (s.grantSweep.visitSlot w.now w.pos).advanceSweep w else s
  | none => s

/-! ## Other ends of waits -/

/-- A notice has waited some more milliseconds. -/
def Notice.wait (n : Nat) (e : Notice) : Notice := { e with waited := e.waited + n }

/-- The oldest notice has waited the hold-off (R165): every entry's wait grows by what the oldest still lacked (log 5). -/
def State.holdOffOver (s : State) : State :=
  match s.notices with
  | [] => s
  | head :: _ => { s with notices := s.notices.map (Notice.wait (s.holdOff - head.waited)) }

/-- Pause deadlines that the tick counter has reached are removed from one line (R71). -/
def State.pauseExpiry (l : LineId) (s : State) : State := s.modifyLine l fun ln => ln.expirePauses s.tick

/-- The countdown of a line's BREAKING hold reaches zero (R80); a continuous hold has no countdown (R79). -/
def State.holdEnd (l : LineId) (s : State) : State :=
  match (s.line l).hold with
  | .breaking d _ => if d = 65535 then s else s.modifyLine l (·.endBreak (s.lineActive l))
  | _ => s

/-! ## One millisecond -/

/-- One millisecond of a line's hold (R79, R80). -/
def LineState.countHold (active : Bool) (ln : LineState) : LineState :=
  match ln.hold with
  | .breaking d r =>
    if d = 65535 then ln else if d.toNat ≤ 1 then ln.endBreak active else { ln with hold := .breaking (d - 1) r }
  | _ => ln

/-- One millisecond of the prescale while the counter runs; a tick when it reaches the period (R116). -/
def State.countPrescale (s : State) : State :=
  if s.takesFrames then if s.tickPeriod ≤ s.prescale + 1 then s.tickNow else { s with prescale := s.prescale + 1 } else s

/-- One millisecond passes (log 4): the waits of the notices (R165), the line holds (R79), the prescale (R116), in that order (log 6). -/
def State.millisecond (s : State) : State :=
  let t := { s with notices := s.notices.map (Notice.wait 1) }
  (t.mapLines fun l ln => ln.countHold (t.lineActive l)).countPrescale

/-! ## The meanings -/

/-- TICK (R116). -/
def execTick (s : State) : Answer := whilePowered State.tickStep s

/-- SWEEP_VISIT (R123). -/
def execSweepVisit (s : State) : Answer := whilePowered State.sweepStep s

/-- NOTICE_HOLD_OFF_EXPIRY (R165). -/
def execNoticeHoldOffExpiry (s : State) : Answer := whilePowered State.holdOffOver s

/-- PAUSE_DEADLINE_EXPIRY (R71). -/
def execPauseDeadlineExpiry (line : LineId) (s : State) : Answer := whilePowered (·.pauseExpiry line) s

/-- LINE_HOLD_END (R80). -/
def execLineHoldEnd (line : LineId) (s : State) : Answer := whilePowered (·.holdEnd line) s

end Sys2Proof.Machine
end

