-- ==== Sys2Proof/Machine/Traffic.lean ====
section
/-! DEFINITION. The frame operations (R89 to R115): the take of a frame, its classification, key and lookup, and what an
UPDATE, QUERY or WITHDRAW does; learning with its victims; and the restart purge of a line (R47). -/

namespace Sys2Proof.Machine

/-! ## Classes and keys -/

/-- A class matches a frame: enabled, its arrival line in the line set, and the identifiers equal under the class's mask (R27, R28). -/
def AccClass.fits (masks : Vector Ident 4) (l : LineId) (ident : Ident) (c : AccClass) : Bool :=
  c.enabled && lineIn c.lines l && (ident &&& masks.get c.mask) == (c.compare &&& masks.get c.mask)

/-- The class of a frame: the first that matches, in ascending order (R28). -/
def ClassSet.classify (l : LineId) (ident : Ident) (set : ClassSet) : Option (Fin 16) :=
  (List.finRange 16).find? fun n => (set.classes.get n).fits set.masks l ident

/-- The number formed by the first `len` bits of a payload, from the most significant bit of byte 0 (R30). -/
def selectorValue (len : Nat) (payload : List Byte) : Half := (payload.getD 0 0 ++ payload.getD 1 0) >>> (16 - len)

/-- The key of a frame under its class: the arrival line, never ANY (R30). -/
def frameKey (l : LineId) (f : RxFrame) (c : AccClass) : Key :=
  { line := some l, ident := f.ident, selLen := c.selLen, selVal := selectorValue c.selLen.val f.payload }

/-- Whether a payload has fewer bits than its class's selector (R31). -/
def tooShort (f : RxFrame) (c : AccClass) : Bool := 8 * f.payload.length < c.selLen.val

/-! ## The take -/

/-- The head frame leaves the queue at the take: the arbiter's counters move, the fall of the count reaches the flow
control, and FRAMES_TAKEN is counted (R45, R28, R50, R70). -/
def State.takeFrame (l : LineId) (rest : List RxFrame) (s : State) : State :=
  (s.grantLine l).modifyLine l fun ln => (LineState.flowOnFall s.flowActs { ln with rxQueue := rest }).count .framesTaken

/-- Classification and key forming (R28 to R31): UNCLASSED, REFUSED for a short payload, or `next` with the class and the key. -/
def State.classified (l : LineId) (f : RxFrame) (next : Fin 16 → Key → State → State) (s : State) : State :=
  match s.active.classify l f.ident with
  | none => s.count l .unclassed
  | some n =>
    let c := s.active.classes.get n
    if c.disposition = .drop then s.count l .unclassed
    else if tooShort f c then s.count l .refused
    else next n (frameKey l f c) s

/-- A frame operation granted to a line, if the arbiter grants that line, no restart request stands ahead of its frames (R47),
and the frame at the head has the given kind; otherwise there is no such event (log 1). -/
def State.frameOperation (kind : FrameKind) (op : LineId → RxFrame → State → State) (l : LineId) (s : State) : State :=
  match (s.line l).rxQueue with
  | f :: rest =>
    if s.grantNext = some (.line l) && !(s.line l).restartRequest && f.kind == kind then op l f (s.takeFrame l rest) else s
  | [] => s

/-! ## Learning (chapter 6) -/

/-- The body of a newborn learned record (R112). -/
def learnedBody (l : LineId) (f : RxFrame) (n : Fin 16) (c : AccClass) (now : Tick) : Body :=
  { Body.empty with
    value := some f.payload
    stamp := now
    limit := c.limit
    source := .node f.source
    owner := if c.lockToOrigin then some f.source else none
    count := 1
    updateNotice := c.updateNotice
    edge := c.edge
    originNode := f.source
    originLine := l
    creatingClass := n }

/-- The birth of a learned record in an EMPTY slot, with CREATED under announce (R112, R113). -/
def State.birth (i : Nat) (l : LineId) (f : RxFrame) (n : Fin 16) (key : Key) (s : State) : State :=
  let c := s.active.classes.get n
  let t := s.modifySlot i (Slot.occupy .fresh .learned key (learnedBody l f n c s.tick))
  t.postIf c.announce (t.handleAt i) .created

/-- The order of the victim search: from the victim pointer up, wrapping inside the learned region (R109). -/
def State.victimOrder (s : State) : List Nat :=
  (List.range s.layout.l).map fun k => s.layout.b + (s.victim - s.layout.b + k) % s.layout.l

/-- A record that the first pass takes: FAULTED, or STALE and not held (R109). -/
def Slot.firstPass (x : Slot) : Bool := x.state == .faulted || (x.state == .stale && !x.held)

/-- The victim: by the first pass, else the first record that is not held (R109, R110). -/
def State.findVictim (s : State) : Option Nat :=
  match s.victimOrder.find? fun i => (s.slotAt i).firstPass with
  | some i => some i
  | none => s.victimOrder.find? fun i => !(s.slotAt i).held

/-- The victim pointer after an eviction in slot `v` (R108). -/
def State.victimAfter (v : Nat) (s : State) : Nat := if v + 1 < s.layout.b + s.layout.l then v + 1 else s.layout.b

/-- The eviction of a victim with the move of the pointer (R111, 1 to 3). -/
def State.evictVictim (v : Nat) (s : State) : State :=
  { s.retireWith (.evicted .replaced) v with victim := s.victimAfter v }

/-- Learning (R105 to R112): the lowest EMPTY learned slot, else a victim's slot, else REFUSED. -/
def State.learn (l : LineId) (f : RxFrame) (n : Fin 16) (key : Key) (s : State) : State :=
  if s.layout.l = 0 then s.count l .refused
  else
    match s.firstEmpty .learned with
    | some i => s.birth i l f n key
    | none =>
      match s.findVictim with
      | some v => (s.evictVictim v).birth v l f n key
      | none => s.count l .refused

/-! ## UPDATE (R91 to R96) -/

/-- The owner bars a source: present, and another node (R92). -/
def ownerBars (owner : Option Byte) (source : Byte) : Bool :=
  match owner with
  | some node => node != source
  | none => false

/-- A hold entry after an update has been kept in it (R93). -/
def HoldEntry.keep (u : PendingUpdate) (e : HoldEntry) : HoldEntry :=
  { e with update := some u, superseded := if e.update.isSome then sat8 e.superseded else e.superseded }

/-- The update becomes the pending update of a held record (R93). -/
def State.keepPending (i : Nat) (u : PendingUpdate) (s : State) : State :=
  { s with holds := s.holds.map fun e => if e.slot = i then e.keep u else e }

/-- An UPDATE that has found a record (R90 to R93): kind, body read, owner, held mark, action. -/
def State.updateFound (l : LineId) (f : RxFrame) (i : Nat) (s : State) : State :=
  if (s.slotAt i).kind = some .exported then s.count l .refused
  else
    let t := s.checkBody (.line l) i
    if s.bodyLost i then t.count l .refused
    else if ownerBars (t.slotAt i).body.owner f.source then t.count l .refused
    else if (t.slotAt i).held then t.keepPending i { value := f.payload, source := f.source, stamp := t.tick }
    else t.applyUpdate i f.payload f.source t.tick

/-- An UPDATE that has found no record: refused under BIND, learned under LEARN (R96). -/
def State.updateUnknown (l : LineId) (f : RxFrame) (n : Fin 16) (key : Key) (s : State) : State :=
  if (s.active.classes.get n).disposition = .learn then s.learn l f n key else s.count l .refused

/-- The operation of a taken UPDATE (R89 to R96). -/
def State.opUpdate (l : LineId) (f : RxFrame) (s : State) : State :=
  s.classified l f fun n key t =>
    match t.lookup key with
    | some i => t.updateFound l f i
    | none => t.updateUnknown l f n key

/-! ## QUERY (R97 to R99) -/

/-- A REPLY entry offered to a line's data part (R97): it joins, or is dropped and counted UNANSWERED. -/
def LineState.offerReply (stale : Bool) (ident : Ident) (snapshot : List Byte) (ln : LineState) : LineState :=
  if ln.data.length < 8 then
    { ln with data := ln.data ++ [{ item := .reply stale ident, priority := ln.settings.replyPriority, snapshot := snapshot }] }
  else ln.count .unanswered

/-- A QUERY that has found a record: its body is read; it is answered in RUN with no transition in flight, uncounted in LISTEN, and
UNANSWERED in a drain from RUN (R97, R98). -/
def State.queryFound (l : LineId) (f : RxFrame) (i : Nat) (s : State) : State :=
  let t := s.checkBody (.line l) i
  if s.bodyLost i then t.count l .refused
  else if t.mode = .listen then t
  else if t.flowActs then
    t.modifyLine l (·.offerReply ((t.slotAt i).state != .fresh) f.ident ((t.slotAt i).body.value.getD []))
  else t.count l .unanswered

/-- The operation of a taken QUERY (R97, R98). -/
def State.opQuery (l : LineId) (f : RxFrame) (s : State) : State :=
  s.classified l f fun _ key t =>
    match t.lookup key with
    | some i => t.queryFound l f i
    | none => t.count l .unanswered

/-! ## WITHDRAW (R100, R101) -/

/-- A WITHDRAW that has found a record (R100): only a learned record, not held, whose origin node sent the frame, is withdrawn (R101). -/
def State.withdrawFound (l : LineId) (f : RxFrame) (i : Nat) (s : State) : State :=
  if (s.slotAt i).kind = some .learned && !(s.slotAt i).held then
    let t := s.checkBody (.line l) i
    if s.bodyLost i then t.count l .refused
    else if (t.slotAt i).body.originNode = f.source then t.retireWith .withdrawn i
    else t.count l .refused
  else s.count l .refused

/-- The operation of a taken WITHDRAW (R100). -/
def State.opWithdraw (l : LineId) (f : RxFrame) (s : State) : State :=
  s.classified l f fun _ key t =>
    match t.lookup key with
    | some i => t.withdrawFound l f i
    | none => t.count l .refused

/-! ## The restart purge (R47) -/

/-- A learned record of an origin line. The purge reads no body; a learned record's key carries its origin line (R4; DEDUCED, log 22). -/
def Slot.learnedFrom (l : LineId) (x : Slot) : Bool := x.isLearned && x.key.map Key.line == some (some l)

/-- The restart purge: every learned record of the line is retired with LINE_RESTART, and the request ends (R47). -/
def State.restartPurge (l : LineId) (s : State) : State :=
  (s.retireAll (Slot.learnedFrom l) (.evicted .lineRestart)).modifyLine l fun ln => { ln with restartRequest := false }

/-- A granted restart purge. -/
def State.restartStep (l : LineId) (s : State) : State :=
  if s.grantNext = some (.line l) && (s.line l).restartRequest then (s.grantLine l).restartPurge l else s

/-! ## The meanings -/

/-- UPDATE (R94, R89 to R96, R105 to R113). -/
def execUpdate (line : LineId) (s : State) : Answer := whilePowered (State.frameOperation .update State.opUpdate line) s

/-- QUERY (R97, R98). -/
def execQuery (line : LineId) (s : State) : Answer := whilePowered (State.frameOperation .query State.opQuery line) s

/-- WITHDRAW (R100, R101). -/
def execWithdraw (line : LineId) (s : State) : Answer := whilePowered (State.frameOperation .withdraw State.opWithdraw line) s

/-- RESTART_PURGE (R47). -/
def execRestartPurge (line : LineId) (s : State) : Answer := whilePowered (·.restartStep line) s

end Sys2Proof.Machine
end

