-- ==== Sys2Proof/Machine/UnitCommands.lean ====
section
/-! DEFINITION. The host commands of the tick unit (R118, R119), the notice unit (R163 to R165) and the condition unit (R167 to R170). -/

namespace Sys2Proof.Machine

/-- The arguments of SET_TIMING (R118): a tick period of 1 to 250 ms. -/
def decodeTiming (period : Byte) (expiry : Half) : Option (Nat × Half) :=
  if 1 ≤ period.toNat && period.toNat ≤ 250 then some (period.toNat, expiry) else none

/-- SET_TIMING (R118). -/
def State.setTiming (period : Nat) (expiry : Half) (s : State) : State :=
  { s with tickPeriod := period, learnedExpiry := expiry }.complete .ok []

/-- READ_TIMING's 15 bytes (R119, R182): with no sweep in flight, sweep now and next slot are zero. -/
def State.timingBytes (s : State) : List Byte :=
  [byteOf s.tickPeriod] ++ halfBytes s.learnedExpiry ++ tickBytes s.tick ++
  (match s.sweep with
    | none => List.replicate 7 0
    | some w => [1] ++ tickBytes w.now ++ halfBytes (BitVec.ofNat 16 w.pos)) ++
  [boolByte s.sweepOwed]

/-- POP_NOTICE: the head entry leaves and is returned with the number left, or EMPTY (R163). -/
def State.popNotice (s : State) : State :=
  match s.notices with
  | [] => s.complete .empty []
  | head :: rest => { s with notices := rest }.complete .ok (noticeImage head ++ [byteOf rest.length])

/-- The start slot of SCAN_MISSED: at most 511 (R164). -/
def decodeStart (start : Half) : Option Nat := if start.toNat < 512 then some start.toNat else none

/-- How many missed marks are set over the whole table (R164). -/
def State.missedCount (s : State) : Nat := (List.range 512).countP fun i => (s.slotAt i).missed

/-- SCAN_MISSED: the first set mark at or above the start slot clears, or NOT_FOUND (R164). -/
def State.scanMissed (start : Nat) (s : State) : State :=
  match (List.range' start (512 - start)).find? fun i => (s.slotAt i).missed with
  | none => s.complete .notFound []
  | some i =>
    let t := s.modifySlot i fun x => { x with missed := false }
    t.complete .ok (halfBytes (BitVec.ofNat 16 i) ++ halfBytes (BitVec.ofNat 16 t.missedCount))

/-- The arguments of SET_NOTICE (R165): a threshold of 1 to 64; every byte is a hold-off in range. -/
def decodeNotice (threshold holdOff : Byte) : Option (Nat × Nat) :=
  if 1 ≤ threshold.toNat && threshold.toNat ≤ 64 then some (threshold.toNat, holdOff.toNat) else none

/-- SET_NOTICE (R165); NOTICE_N, a function of the state, follows at once. -/
def State.setNotice (threshold holdOff : Nat) (s : State) : State :=
  { s with threshold := threshold, holdOff := holdOff }.complete .ok []

/-- SET_ROUTES (R167); NOTICE_N and ALERT_N follow at once. -/
def State.setRoutes (r : Routes) (s : State) : State := { s with routes := r }.complete .ok []

/-- The argument of CLEAR_CONDITIONS: a set of the seven conditions, bit 7 zero (R168, R182). -/
def decodeConditionSet (flags : Byte) : Option Byte := if flags.getLsbD 7 then none else some flags

/-- CLEAR_CONDITIONS: the named flags clear; the answer is the flags left (R168). -/
def State.clearConditions (flags : Byte) (s : State) : State :=
  { s with conditions := s.conditions.without flags }.complete .ok [(s.conditions.without flags).byte]

/-- READ_FAULT (R170). -/
def State.readFault (s : State) : State := s.complete .ok (captureImage s.capture)

/-- CLEAR_FAULT: the capture empties; the answer is whether it was filled (R170). -/
def State.clearFault (s : State) : State := { s with capture := none }.complete .ok [boolByte s.capture.isSome]

/-- SET_TIMING (R118). -/
def execSetTiming (period : Byte) (expiry : Half) (s : State) : Answer :=
  whilePowered (hostCommand 3 inConfig (decodeTiming period expiry) fun a => State.setTiming a.1 a.2) s

/-- READ_TIMING (R119). -/
def execReadTiming (s : State) : Answer :=
  whilePowered (hostCommand 0 inService (some ()) fun _ t => t.complete .ok t.timingBytes) s

/-- POP_NOTICE (R163). -/
def execPopNotice (s : State) : Answer := whilePowered (hostCommand 0 inService (some ()) fun _ => State.popNotice) s

/-- SCAN_MISSED (R164). -/
def execScanMissed (start : Half) (s : State) : Answer :=
  whilePowered (hostCommand 2 inService (decodeStart start) State.scanMissed) s

/-- SET_NOTICE (R165). -/
def execSetNotice (threshold holdOff : Byte) (s : State) : Answer :=
  whilePowered (hostCommand 2 inService (decodeNotice threshold holdOff) fun a => State.setNotice a.1 a.2) s

/-- SET_ROUTES (R167). -/
def execSetRoutes (routes : RoutesArg) (s : State) : Answer :=
  whilePowered (hostCommand 7 inService (decodeRoutes routes) State.setRoutes) s

/-- CLEAR_CONDITIONS (R168). -/
def execClearConditions (flags : Byte) (s : State) : Answer :=
  whilePowered (hostCommand 1 inService (decodeConditionSet flags) State.clearConditions) s

/-- READ_FAULT (R170). -/
def execReadFault (s : State) : Answer := whilePowered (hostCommand 0 inService (some ()) fun _ => State.readFault) s

/-- CLEAR_FAULT (R170). -/
def execClearFault (s : State) : Answer := whilePowered (hostCommand 0 inService (some ()) fun _ => State.clearFault) s

end Sys2Proof.Machine
end

