-- ==== Sys2Proof/Machine/Dispatch.lean ====
section
/-! DEFINITION. The meaning of every command, one arm for each row of spec/opcode_table.json. -/

namespace Sys2Proof.Machine

/-- The effect of a command on everything but the queue. -/
def exec (i : Instr) (s : State) : Host.Outcome State Fault Refusal :=
  match i with
  | .powerOnReset => Sys2Proof.Machine.execPowerOnReset s
  | .pinReset => Sys2Proof.Machine.execPinReset s
  | .resetNRelease => Sys2Proof.Machine.execResetNRelease s
  | .startupComplete => Sys2Proof.Machine.execStartupComplete s
  | .upset slot => Sys2Proof.Machine.execUpset slot s
  | .status count => Sys2Proof.Machine.execStatus count s
  | .result count => Sys2Proof.Machine.execResult count s
  | .discardedTransaction clocked strayBits => Sys2Proof.Machine.execDiscardedTransaction clocked strayBits s
  | .tableCommandOperation => Sys2Proof.Machine.execTableCommandOperation s
  | .create region key policy => Sys2Proof.Machine.execCreate region key policy s
  | .find key => Sys2Proof.Machine.execFind key s
  | .read handle => Sys2Proof.Machine.execRead handle s
  | .write handle value publishNow => Sys2Proof.Machine.execWrite handle value publishNow s
  | .modify handle policy => Sys2Proof.Machine.execModify handle policy s
  | .retire handle => Sys2Proof.Machine.execRetire handle s
  | .hold handle limit => Sys2Proof.Machine.execHold handle limit s
  | .release handle choice => Sys2Proof.Machine.execRelease handle choice s
  | .setLayout bound learned exported => Sys2Proof.Machine.execSetLayout bound learned exported s
  | .purge regions line filter faultedToo => Sys2Proof.Machine.execPurge regions line filter faultedToo s
  | .purgeVisit => Sys2Proof.Machine.execPurgeVisit s
  | .setClass fields => Sys2Proof.Machine.execSetClass fields s
  | .setMask number mask => Sys2Proof.Machine.execSetMask number mask s
  | .readClass copy number => Sys2Proof.Machine.execReadClass copy number s
  | .commitClasses => Sys2Proof.Machine.execCommitClasses s
  | .setShares fieldShare sweepShare => Sys2Proof.Machine.execSetShares fieldShare sweepShare s
  | .setLine fields => Sys2Proof.Machine.execSetLine fields s
  | .readLine line => Sys2Proof.Machine.execReadLine line s
  | .readCounters line clear => Sys2Proof.Machine.execReadCounters line clear s
  | .lineHold line duration restart => Sys2Proof.Machine.execLineHold line duration restart s
  | .lineAbort line => Sys2Proof.Machine.execLineAbort line s
  | .setTiming period expiry => Sys2Proof.Machine.execSetTiming period expiry s
  | .readTiming => Sys2Proof.Machine.execReadTiming s
  | .popNotice => Sys2Proof.Machine.execPopNotice s
  | .scanMissed start => Sys2Proof.Machine.execScanMissed start s
  | .setNotice threshold holdOff => Sys2Proof.Machine.execSetNotice threshold holdOff s
  | .setRoutes routes => Sys2Proof.Machine.execSetRoutes routes s
  | .clearConditions flags => Sys2Proof.Machine.execClearConditions flags s
  | .readFault => Sys2Proof.Machine.execReadFault s
  | .clearFault => Sys2Proof.Machine.execClearFault s
  | .requestMode target => Sys2Proof.Machine.execRequestMode target s
  | .reset => Sys2Proof.Machine.execReset s
  | .softReset => Sys2Proof.Machine.execSoftReset s
  | .immediateTransition => Sys2Proof.Machine.execImmediateTransition s
  | .drainStart => Sys2Proof.Machine.execDrainStart s
  | .drainEnd => Sys2Proof.Machine.execDrainEnd s
  | .wakeEvent line => Sys2Proof.Machine.execWakeEvent line s
  | .resumeComplete => Sys2Proof.Machine.execResumeComplete s
  | .tick => Sys2Proof.Machine.execTick s
  | .sweepVisit => Sys2Proof.Machine.execSweepVisit s
  | .update line => Sys2Proof.Machine.execUpdate line s
  | .query line => Sys2Proof.Machine.execQuery line s
  | .withdraw line => Sys2Proof.Machine.execWithdraw line s
  | .restartPurge line => Sys2Proof.Machine.execRestartPurge line s
  | .noticeHoldOffExpiry => Sys2Proof.Machine.execNoticeHoldOffExpiry s
  | .dataFrameDelivery line => Sys2Proof.Machine.execDataFrameDelivery line s
  | .pause line => Sys2Proof.Machine.execPause line s
  | .resume line => Sys2Proof.Machine.execResume line s
  | .pauseDeadlineExpiry line => Sys2Proof.Machine.execPauseDeadlineExpiry line s
  | .badFrame line heard => Sys2Proof.Machine.execBadFrame line heard s
  | .truncatedFrame line => Sys2Proof.Machine.execTruncatedFrame line s
  | .overlongFrame line => Sys2Proof.Machine.execOverlongFrame line s
  | .lineBreak line => Sys2Proof.Machine.execLineBreak line s
  | .receiverIdleGap line => Sys2Proof.Machine.execReceiverIdleGap line s
  | .frameStart line => Sys2Proof.Machine.execFrameStart line s
  | .frameSent line => Sys2Proof.Machine.execFrameSent line s
  | .collision line => Sys2Proof.Machine.execCollision line s
  | .backoffRetry line => Sys2Proof.Machine.execBackoffRetry line s
  | .lineHoldEnd line => Sys2Proof.Machine.execLineHoldEnd line s
  | .characterReceived line heard => Sys2Proof.Machine.execCharacterReceived line heard s

end Sys2Proof.Machine
end

