-- ==== Sys2Proof/WellFormed.lean ====
section
/-! DEFINITION. Which commands can be sent at all. The raw arguments of a host command may hold anything their bytes
can hold (the port itself judges them, R144), so a check stands only where an operand names something that does not
exist: a slot above 511, a number of stray bits that would make a byte, a byte count that is not of the row's transaction, or
a character without a start bit. -/

namespace Sys2Proof

/-- `c.wellFormed` says that the operands of `c` describe an event that can reach the block:
an upset strikes one of the 512 slots (R1, R52); a STATUS counts 1 to 5 bytes and a RESULT 2 or more (R181);
fewer than 8 bits are left over beyond the whole bytes of a transaction (R140); a character begins with its start bit,
which leaves the idle level (R62). -/
def Instr.wellFormed : Instr → Bool
  | .upset slot => slot < 512
  | .status count => 1 ≤ count && count ≤ 5
  | .result count => 2 ≤ count
  | .discardedTransaction _ strayBits => strayBits < 8
  | .badFrame _ heard => !heard.getLsbD 0
  | .characterReceived _ heard => !heard.getLsbD 0
  | _ => true

end Sys2Proof
end

