-- ==== Sys2Proof/Safety.lean ====
section
/-! DEFINITION. What the statements speak of: the host's commands, a port and an engine that are free, the answers of the
command slot, and the invariants that every step keeps. -/

namespace Sys2Proof.Machine

/-! ## Commands and answers -/

/-- The commands that the host places with a COMMAND transaction: those with a command code (R182). -/
def hostCommandOf : Instr → Bool
  | .create _ _ _ => true | .find _ => true | .read _ => true | .write _ _ _ => true | .modify _ _ => true
  | .retire _ => true | .hold _ _ => true | .release _ _ => true | .setLayout _ _ _ => true | .purge _ _ _ _ => true
  | .setClass _ => true | .setMask _ _ => true | .readClass _ _ => true | .commitClasses => true | .setShares _ _ => true
  | .setLine _ => true | .readLine _ => true | .readCounters _ _ => true | .lineHold _ _ _ => true | .lineAbort _ => true
  | .setTiming _ _ => true | .readTiming => true | .popNotice => true | .scanMissed _ => true | .setNotice _ _ => true
  | .setRoutes _ => true | .clearConditions _ => true | .readFault => true | .clearFault => true | .requestMode _ => true
  | .reset => true
  | _ => false

/-- The port takes a COMMAND: RESET_N is released, the part has started, and the slot is not PENDING (R144). -/
def State.portOpen (s : State) : Bool := !s.resetHeld && !s.portClosed

/-- The port takes a COMMAND in CONFIG, RUN or LISTEN (R147). -/
def State.servesHost (s : State) : Bool := s.portOpen && inService s.mode

/-- No line and no sweep requests the engine, so a table command is granted at once (R49). -/
def State.engineFree (s : State) : Bool := !s.anyLineRequests && s.sweep.isNone

/-- The state after a COMMAND that its block answers at once: the bytes clocked out, the refused bit clear, the result stored (R140, R143, R144). -/
def State.answered (argBytes : Nat) (code : ResultCode) (body : List Byte) (s : State) : State :=
  { s with miso := s.commandOut argBytes, refused := false, slot := .done code body }

/-- The state after a table command that a free engine carries out at once: as `answered`, and the field-share run is 0 (R50). -/
def State.engineAnswered (argBytes : Nat) (code : ResultCode) (body : List Byte) (s : State) : State :=
  { s with miso := s.commandOut argBytes, refused := false, slot := .done code body, arb := { s.arb with run := 0 } }

/-- A handle argument names the record in a slot of the table: the slot exists and is occupied at the handle's generation (R11). -/
def State.names (h : HandleArg) (s : State) : Bool := s.isCurrent { slot := h.slot.toNat, gen := h.gen }

/-- The record in a slot, replaced. -/
def State.withSlot (i : Nat) (x : Slot) (s : State) : State := { s with slots := s.slots.setIfInBounds i x }

/-- One line, replaced. -/
def State.withLine (l : LineId) (x : LineState) (s : State) : State := { s with lines := s.lines.set l.val x l.isLt }

/-- A line after the engine has taken its head frame: the queue's rest, and what the flow control makes of the fall (R45, R70). -/
def State.lineTaken (l : LineId) (rest : List RxFrame) (s : State) : LineState :=
  LineState.flowOnFall s.flowActs { s.line l with rxQueue := rest }

/-- No visible record of the table has a key that overlaps the given one (R13). -/
def State.keyFree (k : Key) (s : State) : Bool :=
  (List.range 512).all fun i => !(s.slotAt i).matchesKey k

/-- After a granted line's head frame has been taken, counted and REFUSED (R89). -/
def State.frameRefused (l : LineId) (rest : List RxFrame) (s : State) : State :=
  { s.withLine l { s.lineTaken l rest with
      counters := { (s.line l).counters with
        framesTaken := sat16 (s.line l).counters.framesTaken, refused := sat16 (s.line l).counters.refused } } with
    arb := (s.grantLine l).arb }

/-- The nodes of a line will have been told PAUSE once everything already decided has been sent (R69): by the control entry, else
by a control frame in flight, else by the outstanding mark. -/
def LineState.toldPaused (ln : LineState) : Prop :=
  ln.control = some .pause ∨
  (ln.control = none ∧ ln.flight.map Flight.item = some (.control .pause)) ∨
  (ln.control = none ∧ (∀ c, ln.flight.map Flight.item ≠ some (.control c)) ∧ ln.outstanding = true)

/-- A line after a flush (R81, R82). Where frames leave its receive queue while a PAUSE of the part is in flight, the flow control
places a RESUME (R70; DEDUCED, log 10). -/
def LineState.afterFlush (acts : Bool) (ln : LineState) : LineState :=
  { ln with
    rxQueue := [], data := [], outstanding := false,
    control := if acts = true ∧ ln.settings.flow = true ∧ ln.rxQueue ≠ [] ∧ ln.flight.map Flight.item = some (.control .pause)
      then some .resume else none }

/-- A line after its enable event (R81): flushed if its settings ask for it, and the receiver in WAITING, but for a break being
driven, and for a frame being sent (R67; DEDUCED, log 11). -/
def LineState.afterEnable (acts : Bool) (ln : LineState) : LineState :=
  { (if ln.settings.flushOnEnable then ln.afterFlush acts else ln) with
    rx := if ln.drivesBreak then .stopped else if ln.isSending then .echo else .waiting }

/-- After a body read that finds a single error (R54): the body is clean again, FAULT_CORRECTED is set, and the capture is offered a
CORRECTED event. -/
def State.corrected (source : FaultSource) (i : Nat) (s : State) : State :=
  { s.withSlot i { s.slotAt i with integrity := .clean } with
    conditions := { s.conditions with faultCorrected := true }
    capture := captureAfter s.capture
      { corrected := true, slot := i, gen := (s.slotAt i).gen, source := source, tick := s.tick, overwritten := false } }

/-- After a body read that finds a double error in an occupied slot (R55): the record is FAULTED, with kind, generation, key, expired-hold
mark and body kept; its hold entry, held mark and PUBLISH entries are gone; FAULTED is posted; FAULT_UNCORRECTABLE is set; and the capture
is offered an UNCORRECTABLE event. The missed mark is the posting's. -/
def State.lostRecord (source : FaultSource) (i : Nat) (s : State) : State :=
  let posted := s.post (s.handleAt i) .faulted
  { s.withSlot i { s.slotAt i with state := .faulted, held := false, missed := (posted.slotAt i).missed } with
    holds := s.holds.filter fun e => e.slot != i
    lines := s.lines.map (LineState.dropPublish (s.handleAt i))
    notices := posted.notices
    conditions := { posted.conditions with faultUncorrectable := true }
    capture := captureAfter s.capture
      { corrected := false, slot := i, gen := (s.slotAt i).gen, source := source, tick := s.tick, overwritten := false } }

/-- A record's notices of an applied update (R95): RECOVERED from STALE under edge notice, then CHANGED as the update notice asks. -/
def State.updateNotices (i : Nat) (new : List Byte) (s : State) : State :=
  let t := if (s.slotAt i).state = .stale ∧ (s.slotAt i).body.edge = true then s.post (s.handleAt i) .recovered else s
  if (s.slotAt i).body.updateNotice = .every ∨
      ((s.slotAt i).body.updateNotice = .change ∧ (s.slotAt i).body.value ≠ some new) then t.post (s.handleAt i) .changed
  else t

/-- The notices of the retirement of every record that a test picks (R15, R47): EVICTED with one reason for each, in slot order. -/
def State.evictions (pick : Slot → Bool) (reason : Reason) (s : State) : State :=
  ((List.range 512).filter fun i => pick (s.slotAt i)).foldl (fun t i => t.post (s.handleAt i) (.evicted reason)) s

/-- A line without the PUBLISH entries of the records that a test picks; the other entries keep their order (R17, R136). -/
def State.lineWithout (pick : Slot → Bool) (l : LineId) (s : State) : LineState :=
  { s.line l with data := (s.line l).data.filter fun e =>
      (List.range 512).all fun i => !(pick (s.slotAt i) && e.item == .publish (s.handleAt i)) }

/-- The record that an UPDATE under LEARN makes in a slot (R112); the missed mark is the slot's own. -/
def State.newborn (l : LineId) (f : RxFrame) (n : Fin 16) (i : Nat) (s : State) : Slot :=
  { state := .fresh, kind := some .learned, gen := (s.slotAt i).gen + 1,
    key := some (frameKey l f (s.active.classes.get n)), held := false, expiredHold := false,
    missed := (s.slotAt i).missed, integrity := .clean,
    body := { Body.empty with
      value := some f.payload, stamp := s.tick, source := .node f.source, count := 1,
      owner := if (s.active.classes.get n).lockToOrigin then some f.source else none,
      limit := (s.active.classes.get n).limit, updateNotice := (s.active.classes.get n).updateNotice,
      edge := (s.active.classes.get n).edge, originNode := f.source, originLine := l, creatingClass := n } }

/-- The notices of an eviction and of the birth in the victim's slot (R111, R113): EVICTED, REPLACED for the victim, then CREATED under
announce for the new record. -/
def State.learningNotices (v : Nat) (announce : Bool) (s : State) : State :=
  (s.post (s.handleAt v) (.evicted .replaced)).postIf announce { slot := v, gen := (s.slotAt v).gen + 1 } .created

/-- A record after ageing at sweep now (R124): STALE, with a STALE notice under edge notice, or left as it is. -/
def State.agedInSweep (now : Tick) (i : Nat) (s : State) : State :=
  let x := s.slotAt i
  if (x.state = .new ∨ x.state = .fresh) ∧ x.body.limit ≠ 0 ∧ x.body.limit.toNat ≤ age x.body.stamp now then
    (s.withSlot i { x with state := .stale }).postIf x.body.edge (s.handleAt i) .stale
  else s

/-- What a publication of the export record in a slot makes of a line (R131, R132): a line outside its line set is left alone; NEW or
STALE is skipped; FRESH takes the place of the record's own entry, or joins, or is skipped by a full data part. -/
def State.publishedOn (i : Nat) (x : Slot) (l : LineId) (s : State) : LineState :=
  let ln := s.line l
  let entry : DataItem := .publish (s.handleAt i)
  let skipped := { ln with counters := { ln.counters with skipped := sat16 ln.counters.skipped } }
  if x.body.lineSet.getLsbD l.val = false then ln
  else if x.state ≠ .fresh then skipped
  else if (ln.data.any fun e => e.item == entry) = true then
    { ln with data := ln.data.map fun e => if e.item = entry then { e with snapshot := x.body.value.getD [] } else e }
  else if ln.data.length < 8 then
    { ln with data := ln.data ++ [{ item := entry, priority := x.body.priority, snapshot := x.body.value.getD [] }] }
  else skipped

/-- The sweep after a visit (R122, R123, R50): at the next slot; after slot 511 ended, or at once the owed one from slot 0, which
begins with a requested installation (R121). -/
def State.sweptPast (w : Sweep) (s : State) : State :=
  let t := { s with arb := { s.arb with sweepWait := 0 } }
  if w.pos < 511 then { t with sweep := some { now := w.now, pos := w.pos + 1 } }
  else if s.sweepOwed then
    { t with
      sweep := some { now := s.tick, pos := 0 }, sweepOwed := false,
      active := if s.commitRequested then s.staged else s.active, commitRequested := false }
  else { t with sweep := none }

/-! ## Invariants -/

/-- The layout covers the table, and so does the layout of a waiting SET_LAYOUT (R14, R15). -/
def layoutCovers (s : State) : Prop :=
  s.layout.b + s.layout.l + s.layout.e = 512 ∧
  ∀ y, s.slot = .pending (.setLayout y) → y.b + y.l + y.e = 512

/-- No two visible records have overlapping keys (R13). -/
def keysNeverOverlap (s : State) : Prop :=
  ∀ i j k k', i ≠ j → (s.slotAt i).visible = true → (s.slotAt j).visible = true →
    (s.slotAt i).key = some k → (s.slotAt j).key = some k' → k.overlaps k' = false

/-- The notice queue holds at most 64 entries, never two for one handle (R159). -/
def noticesBounded (s : State) : Prop := s.notices.length ≤ 64 ∧ (s.notices.map Notice.handle).Nodup

/-- The arbiter's shares and counters keep their ranges, and the sweep-wait count is 0 while no sweep is in flight (R48, R50). -/
def arbiterInRange (s : State) : Prop :=
  1 ≤ s.arb.fieldShare ∧ s.arb.fieldShare ≤ 15 ∧ 1 ≤ s.arb.sweepShare ∧ s.arb.sweepShare ≤ 255 ∧
  s.arb.run ≤ s.arb.fieldShare ∧ s.arb.sweepWait ≤ s.arb.sweepShare ∧ (s.sweep = none → s.arb.sweepWait = 0)

/-- The hold list has at most 16 entries, at most one for a slot, and a slot is held exactly while it has one; an EMPTY slot is not held (R154, R2). -/
def holdsAgree (s : State) : Prop :=
  s.holds.length ≤ 16 ∧ (s.holds.map HoldEntry.slot).Nodup ∧
  (∀ i, (s.slotAt i).held = true ↔ ∃ e ∈ s.holds, e.slot = i) ∧
  ∀ i, (s.slotAt i).state = .empty → (s.slotAt i).held = false

/-- The mode controller's registers agree (R171): the target is the mode but for a transition; the origin is kept in STANDBY and
nowhere else; a drain runs in RUN or LISTEN towards CONFIG or STANDBY; a resume runs in STANDBY towards RUN or LISTEN; and
start-up is in progress exactly in STARTING. -/
def modesAgree (s : State) : Prop :=
  (s.transition = none → s.target = s.mode) ∧
  (s.origin.isSome = true ↔ s.mode = .standby) ∧
  (s.transition = some .drain → (s.mode = .run ∨ s.mode = .listen) ∧ (s.target = .config ∨ s.target = .standby)) ∧
  (s.transition = some .resume → s.mode = .standby ∧ (s.target = .run ∨ s.target = .listen)) ∧
  (s.startup = .inProgress ↔ s.mode = .starting)

/-- The queues of every line keep their bounds: 8 frames, 8 data entries, 3 collisions of the frame in flight (R68, R129, R75). -/
def queuesBounded (s : State) : Prop :=
  ∀ l, (s.line l).rxQueue.length ≤ 8 ∧ (s.line l).data.length ≤ 8 ∧ ∀ f, (s.line l).flight = some f → f.collisions ≤ 3

/-- A FRESH record has a value and a NEW record has none (R7). -/
def valuesAgree (s : State) : Prop :=
  ∀ i, ((s.slotAt i).state = .fresh → (s.slotAt i).body.value.isSome = true) ∧
       ((s.slotAt i).state = .new → (s.slotAt i).body.value = none)

/-- An invariant is kept by a step: every next state of a state that has it, has it. -/
def keptByEveryStep (inv : State → Prop) : Prop := ∀ s t, inv s → step s = .next t → inv t

end Sys2Proof.Machine
end

