-- ==== Sys2Proof/Certificates/Slice0/Obligations.lean ====
section
/-! DEFINITION. The statements for the provers: what each command does, when it completes, what it leaves alone, and the
invariants that every step keeps. A next state written as an update of `s` says that every other field is as it was. -/

open Sys2Proof Sys2Proof.Machine

/-! ## The block as a whole -/

/-- A step with a command waiting is `exec` of that command on the state with the queue's rest. -/
def Obligations.StepRunsTheFrontCommand : Prop :=
  ∀ (c : Instr) (rest : List Instr) (s : State), s.pending = c :: rest → step s = exec c { s with pending := rest }

/-- A step on an empty queue is one millisecond (the model's choice, logs 4 and 6): nothing while RESET_N is held; the notices wait; the
prescale counts where the tick counter runs, and the millisecond that fills the tick period is a tick (R116, R165); and a driven break
counts down, or ends with its last millisecond, but for a continuous one (R79, R80). -/
def Obligations.AStepOnAnEmptyQueueIsOneMillisecond : Prop :=
  ∀ s : State, s.pending = [] →
    (s.resetHeld = true → step s = .next s) ∧
    (s.resetHeld = false → (∀ l, (s.line l).drivesBreak = false) →
      (s.takesFrames = false → step s = .next { s with notices := s.notices.map (Notice.wait 1) }) ∧
      (s.takesFrames = true → s.prescale + 1 < s.tickPeriod →
        step s = .next { s with notices := s.notices.map (Notice.wait 1), prescale := s.prescale + 1 }) ∧
      (s.takesFrames = true → s.tickPeriod ≤ s.prescale + 1 →
        step s = exec .tick { s with notices := s.notices.map (Notice.wait 1) })) ∧
    (s.resetHeld = false → (s.takesFrames = false ∨ s.prescale + 1 < s.tickPeriod) →
      ∃ t, step s = .next t ∧
        { t with lines := s.lines } = { s with
          notices := s.notices.map (Notice.wait 1), prescale := if s.takesFrames then s.prescale + 1 else s.prescale } ∧
        ∀ l,
          ((∀ d r, (s.line l).hold ≠ .breaking d r) → t.line l = s.line l) ∧
          (∀ r, (s.line l).hold = .breaking 65535 r → t.line l = s.line l) ∧
          (∀ d r, (s.line l).hold = .breaking d r → d ≠ 65535 → 1 < d.toNat →
            t.line l = { s.line l with hold := .breaking (d - 1) r }) ∧
          (∀ d r, (s.line l).hold = .breaking d r → d.toNat ≤ 1 →
            t.line l = { s.line l with
              hold := .off, rx := if s.lineActive l then .waiting else .stopped, restartRequest := (s.line l).restartRequest || r }))

/-- Every command answers a next state in every state, and leaves the queue of waiting commands alone. That it does so where its event
cannot happen, and the queue itself, are the model's choice (log 1). -/
def Obligations.NoCommandStopsOrTouchesTheQueue : Prop :=
  ∀ (c : Instr) (s : State), ∃ t, exec c s = .next t ∧ t.pending = s.pending

/-- While RESET_N is held low, only a reset of the supply or of the pin, or the release of the pin, changes anything (R177). -/
def Obligations.NothingHappensWhileResetIsHeld : Prop :=
  ∀ (c : Instr) (s : State), s.resetHeld = true → c ≠ .powerOnReset → c ≠ .pinReset → c ≠ .resetNRelease →
    exec c s = .next s

/-- The state after a power-on reset has the values of R14, R48, R59, R116, R165, R167 and R171, and every invariant. -/
def Obligations.ResetHasThePowerOnValuesAndTheInvariants : Prop :=
  let s := State.reset
  s.mode = .starting ∧ s.target = .starting ∧ s.origin = none ∧ s.transition = none ∧ s.startup = .inProgress ∧
  (∀ i, s.slotAt i = Slot.reset) ∧ s.layout = { b := 384, l := 64, e := 64 } ∧ s.victim = 384 ∧ s.holds = [] ∧
  s.arb = { fieldShare := 4, sweepShare := 32, run := 0, pointer := 3, sweepWait := 0 } ∧
  (∀ l, s.line l = LineState.withSettings LineSettings.reset) ∧
  s.tick = 0 ∧ s.prescale = 0 ∧ s.tickPeriod = 10 ∧ s.learnedExpiry = 6000 ∧ s.sweepOwed = false ∧ s.sweep = none ∧
  s.notices = [] ∧ s.threshold = 1 ∧ s.holdOff = 0 ∧ s.conditions = Conditions.clear ∧ s.routes = Routes.reset ∧
  s.capture = none ∧ s.slot = .idle ∧ s.refused = false ∧ s.noticeN = false ∧ s.alertN = false ∧
  layoutCovers s ∧ keysNeverOverlap s ∧ noticesBounded s ∧ arbiterInRange s ∧ holdsAgree s ∧ modesAgree s ∧
  queuesBounded s ∧ valuesAgree s

/-- POWER_ON_RESET, PIN_RESET, RESET_N_RELEASE and STARTUP_COMPLETE (R177, R22, R170): the reset values, with the fault
capture kept by a pin reset; then the table cleared and CONFIG. The model's choices: a power-on reset leaves the level of RESET_N as it
is (log 13); the queue, the bytes clocked out and the count of free values are no part of a reset (logs 1, 8 and 9); the end of start-up
clears the table once more, an upset in STARTING with it (log 24). -/
def Obligations.ResetsAndStartUp : Prop :=
  ∀ s : State,
    exec .powerOnReset s = .next { State.reset with
      resetHeld := s.resetHeld, miso := s.miso, freeCount := s.freeCount, pending := s.pending } ∧
    exec .pinReset s = .next { State.reset with
      resetHeld := true, capture := s.capture, miso := s.miso, freeCount := s.freeCount, pending := s.pending } ∧
    (s.resetHeld = true → exec .resetNRelease s = .next { State.reset with
      capture := s.capture, miso := s.miso, freeCount := s.freeCount, pending := s.pending }) ∧
    (s.resetHeld = false → s.mode = .starting → exec .startupComplete s = .next { s with
      slots := Vector.replicate 512 Slot.reset, layout := { b := 384, l := 64, e := 64 }, victim := 384, holds := [],
      purge := none, startup := .complete, mode := .config, target := .config, origin := none })

/-! ## The port -/

/-- A taken STATUS clocks out the port status byte and the status word and clears the refused bit alone (R142). A taken RESULT
clocks out the stored code and body and takes the slot from DONE to IDLE; in IDLE and PENDING it clocks out NONE (R145). -/
def Obligations.StatusAndResultTransactions : Prop :=
  ∀ (count : Nat) (s : State), s.resetHeld = false →
    (1 ≤ count → count ≤ 5 →
      exec (.status count) s = .next { s with refused := false, miso := (s.statusByte :: s.statusWord).take count }) ∧
    (2 ≤ count → ∀ code body, s.slot = .done code body →
      exec (.result count) s = .next { s with
        refused := false, slot := .idle, miso := ((s.statusByte :: code.code :: body) ++ List.replicate count 0).take count }) ∧
    (2 ≤ count → (∀ code body, s.slot ≠ .done code body) →
      exec (.result count) s = .next { s with
        refused := false, miso := ((s.statusByte :: 0xFF :: []) ++ List.replicate count 0).take count })

/-- A transaction with stray bits, with a count that does not fit its type, or a COMMAND that cannot be placed, changes
nothing but the refused bit, which it sets (R140). What is clocked out is no state of the part (logs 8 and 9). -/
def Obligations.TransactionsTurnedAwaySetOnlyTheRefusedBit : Prop :=
  ∀ (clocked : List Byte) (strayBits : Nat) (s : State), s.resetHeld = false → clocked ≠ [] →
    (strayBits ≠ 0 ∨ fitsType clocked = false ∨ (clocked.head? = some 0xA1 ∧ s.portClosed = true)) →
    ∃ out n, exec (.discardedTransaction clocked strayBits) s = .next { s with refused := true, miso := out, freeCount := n }

/-- In STARTING and while the slot is PENDING, every COMMAND is refused: the refused bit is set and nothing else changes (R144). -/
def Obligations.AClosedPortRefusesEveryCommand : Prop :=
  ∀ (c : Instr) (s : State), hostCommandOf c = true → s.resetHeld = false → (s.mode = .starting ∨ ∃ h, s.slot = .pending h) →
    ∃ out, exec c s = .next { s with refused := true, miso := out }

/-- In STANDBY every command but REQUEST_MODE and RESET answers WRONG_MODE and changes nothing else (R144, R147). -/
def Obligations.StandbyAnswersWrongMode : Prop :=
  ∀ (c : Instr) (s : State), hostCommandOf c = true → (∀ target, c ≠ .requestMode target) → c ≠ .reset →
    s.portOpen = true → s.mode = .standby →
    ∃ out, exec c s = .next { s with refused := false, miso := out, slot := .done .wrongMode [] }

/-! ## Record commands, with a free engine -/

/-- CREATE makes a NEW record in the lowest EMPTY slot of its region and answers its handle (R16, R148). -/
def Obligations.CreateMakesANewRecord : Prop :=
  ∀ (k : KeyArg) (a : PolicyArg) (key : Key) (p : Policy) (i : Nat) (s : State),
    s.servesHost = true → s.engineFree = true → s.layout.b + s.layout.l + s.layout.e = 512 →
    decodeKey k = some key → decodePolicy a = some p → s.keyFree key = true → i < 512 → (s.slotAt i).state = .empty →
    (s.layout.kindAt i = .bound → (∀ j < i, s.layout.kindAt j = .bound → (s.slotAt j).state ≠ .empty) →
      exec (.create 1 k a) s = .next ((s.engineAnswered 17 .ok (handleBytes { slot := i, gen := (s.slotAt i).gen + 1 })).withSlot i
        { state := .new, kind := some .bound, gen := (s.slotAt i).gen + 1, key := some key, held := false, expiredHold := false,
          missed := (s.slotAt i).missed, integrity := .clean,
          body := { Body.empty with
            stamp := s.tick, limit := p.limit, owner := p.owner, updateNotice := p.updateNotice, edge := p.edge } })) ∧
    (∀ set priority, decodeExport p = some (set, priority) → s.layout.kindAt i = .exported →
      (∀ j < i, s.layout.kindAt j = .exported → (s.slotAt j).state ≠ .empty) →
      exec (.create 3 k a) s = .next ((s.engineAnswered 17 .ok (handleBytes { slot := i, gen := (s.slotAt i).gen + 1 })).withSlot i
        { state := .new, kind := some .exported, gen := (s.slotAt i).gen + 1, key := some key, held := false, expiredHold := false,
          missed := (s.slotAt i).missed, integrity := .clean,
          body := { Body.empty with
            stamp := s.tick, limit := p.limit, owner := p.owner, updateNotice := p.updateNotice, edge := p.edge,
            period := p.period, lineSet := set, priority := priority, nextDue := s.tick + p.period.setWidth 32 } }))

/-- CREATE answers BAD_ARGUMENT at the port, KEY_IN_USE for a key that overlaps a visible record's, then REGION_FULL, and
changes no record (R16, R148). -/
def Obligations.CreateIsRefused : Prop :=
  ∀ (region : Byte) (k : KeyArg) (a : PolicyArg) (s : State), s.servesHost = true →
    (decodeCreate region k a = none → exec (.create region k a) s = .next (s.answered 17 .badArgument [])) ∧
    (∀ exported key p, decodeCreate region k a = some (.create exported key p) → s.engineFree = true →
      (s.keyFree key = false → exec (.create region k a) s = .next (s.engineAnswered 17 .keyInUse [])) ∧
      (s.keyFree key = true → s.layout.b + s.layout.l + s.layout.e = 512 →
        (∀ i < 512, s.layout.kindAt i = createdKind exported → (s.slotAt i).state ≠ .empty) →
        exec (.create region k a) s = .next (s.engineAnswered 17 .regionFull [])))

/-- FIND answers BAD_ARGUMENT for a key out of range; else the handle, state and kind of the lowest visible record with an overlapping key
and the number of such records, or NOT_FOUND; and it changes nothing (R149). -/
def Obligations.FindReportsTheLowestOverlap : Prop :=
  ∀ (k : KeyArg) (s : State), s.servesHost = true →
    (decodeKey k = none → exec (.find k) s = .next (s.answered 7 .badArgument [])) ∧
    ∀ key, decodeKey k = some key → s.engineFree = true →
    (s.keyFree key = true → exec (.find k) s = .next (s.engineAnswered 7 .notFound [])) ∧
    (∀ i < 512, (s.slotAt i).matchesKey key = true → (∀ j < i, (s.slotAt j).matchesKey key = false) →
      exec (.find k) s = .next (s.engineAnswered 7 .ok
        (handleBytes { slot := i, gen := (s.slotAt i).gen } ++
          [(s.slotAt i).state.code, kindCode (s.slotAt i).kind,
           byteOf ((List.range 512).countP fun j => (s.slotAt j).matchesKey key)])))

/-- READ of a clean record answers its record image and changes nothing; of a FAULTED one, FAULTED with the directory part (R150). -/
def Obligations.ReadReturnsTheRecordImage : Prop :=
  ∀ (h : HandleArg) (s : State), s.servesHost = true → s.engineFree = true → h.slot.toNat < 512 → s.names h = true →
    ((s.slotAt h.slot.toNat).state ≠ .faulted → (s.slotAt h.slot.toNat).integrity = .clean →
      exec (.read h) s = .next (s.engineAnswered 3 .ok
        (recordImage h.slot.toNat (s.slotAt h.slot.toNat) (s.holdOf h.slot.toNat)))) ∧
    ((s.slotAt h.slot.toNat).state = .faulted →
      exec (.read h) s = .next (s.engineAnswered 3 .faulted (directoryImage h.slot.toNat (s.slotAt h.slot.toNat))))

/-- WRITE of a clean record sets value, stamp and source and makes it FRESH; without publish-now, for a record of another kind, or
outside RUN, nothing is published (R151, R133). With a single error in the body, which is corrected, it goes on as with a clean one
(R54); with a double one the record becomes FAULTED, and WRITE answers FAULTED and makes none of its changes (R55, R56). -/
def Obligations.WriteSetsTheValue : Prop :=
  ∀ (h : HandleArg) (v : ValueArg) (publishNow : Byte) (value : List Byte) (s : State),
    s.servesHost = true → s.engineFree = true → h.slot.toNat < 512 → s.names h = true → decodeValue v = some value →
    (s.slotAt h.slot.toNat).state ≠ .faulted →
    ((s.slotAt h.slot.toNat).integrity = .clean →
      (publishNow = 0 ∨ (publishNow = 1 ∧ ((s.slotAt h.slot.toNat).kind ≠ some .exported ∨ s.mode ≠ .run))) →
      exec (.write h v publishNow) s = .next ((s.engineAnswered 13 .ok []).withSlot h.slot.toNat
        { s.slotAt h.slot.toNat with
          state := .fresh
          body := { (s.slotAt h.slot.toNat).body with value := some value, stamp := s.tick, source := .host } })) ∧
    ((s.slotAt h.slot.toNat).integrity = .single → (publishNow = 0 ∨ publishNow = 1) →
      ∃ t, exec (.write h v publishNow) (s.corrected .command h.slot.toNat) = .next t ∧
        exec (.write h v publishNow) s = .next { t with miso := s.commandOut 13 }) ∧
    ((s.slotAt h.slot.toNat).integrity = .double → (publishNow = 0 ∨ publishNow = 1) →
      exec (.write h v publishNow) s = .next ((s.engineAnswered 13 .faulted []).lostRecord .command h.slot.toNat))

/-- WRITE with publish-now to an export record in RUN writes it and offers the value to each line of its line set: an entry for
the record takes the new snapshot, else a new entry joins, else SKIPPED is counted; other lines are left alone (R131 to R133). -/
def Obligations.WriteWithPublishNowPublishes : Prop :=
  ∀ (h : HandleArg) (v : ValueArg) (value : List Byte) (s : State),
    s.servesHost = true → s.engineFree = true → h.slot.toNat < 512 → s.names h = true → decodeValue v = some value →
    (s.slotAt h.slot.toNat).state ≠ .faulted → (s.slotAt h.slot.toNat).integrity = .clean →
    (s.slotAt h.slot.toNat).kind = some .exported → s.mode = .run →
    ∃ t, exec (.write h v 1) s = .next t ∧
      { t with lines := s.lines } = ((s.engineAnswered 13 .ok []).withSlot h.slot.toNat
        { s.slotAt h.slot.toNat with
          state := .fresh
          body := { (s.slotAt h.slot.toNat).body with value := some value, stamp := s.tick, source := .host } }) ∧
      ∀ l, t.line l =
        (if (s.slotAt h.slot.toNat).body.lineSet.getLsbD l.val = false then s.line l
         else if ((s.line l).data.any fun e => e.item == .publish { slot := h.slot.toNat, gen := h.gen }) = true then
           { s.line l with data := (s.line l).data.map fun e =>
               if e.item = .publish { slot := h.slot.toNat, gen := h.gen } then { e with snapshot := value } else e }
         else if (s.line l).data.length < 8 then
           { s.line l with data := (s.line l).data ++
               [{ item := .publish { slot := h.slot.toNat, gen := h.gen },
                  priority := (s.slotAt h.slot.toNat).body.priority, snapshot := value }] }
         else { s.line l with counters := { (s.line l).counters with skipped := sat16 (s.line l).counters.skipped } })

/-- MODIFY of a clean record changes its policies alone; of an export record also line set and priority and, with a period that
differs, period and next due, and it removes the record's PUBLISH entries on the lines it leaves out (R152, R137). Bad export arguments
answer BAD_ARGUMENT with no read. A single error in the body is corrected and MODIFY goes on (R54); with a double one the record becomes
FAULTED, and MODIFY answers FAULTED and makes none of its changes (R55, R56). -/
def Obligations.ModifyChangesThePolicies : Prop :=
  ∀ (h : HandleArg) (a : PolicyArg) (p : Policy) (s : State),
    s.servesHost = true → s.engineFree = true → h.slot.toNat < 512 → s.names h = true → decodePolicy a = some p →
    (s.slotAt h.slot.toNat).state ≠ .faulted →
    ((s.slotAt h.slot.toNat).integrity = .clean → (s.slotAt h.slot.toNat).kind ≠ some .exported →
      exec (.modify h a) s = .next ((s.engineAnswered 12 .ok []).withSlot h.slot.toNat
        { s.slotAt h.slot.toNat with
          body := { (s.slotAt h.slot.toNat).body with
            limit := p.limit, owner := p.owner, updateNotice := p.updateNotice, edge := p.edge } })) ∧
    ((s.slotAt h.slot.toNat).kind = some .exported → decodeExport p = none →
      exec (.modify h a) s = .next (s.engineAnswered 12 .badArgument [])) ∧
    ((s.slotAt h.slot.toNat).integrity = .clean → (s.slotAt h.slot.toNat).kind = some .exported → ∀ set priority, decodeExport p = some (set, priority) →
      ∃ t, exec (.modify h a) s = .next t ∧
        { t with lines := s.lines } = ((s.engineAnswered 12 .ok []).withSlot h.slot.toNat
          { s.slotAt h.slot.toNat with
            body := { (s.slotAt h.slot.toNat).body with
              limit := p.limit, owner := p.owner, updateNotice := p.updateNotice, edge := p.edge,
              lineSet := set, priority := priority, period := p.period,
              nextDue := if p.period = (s.slotAt h.slot.toNat).body.period then (s.slotAt h.slot.toNat).body.nextDue
                         else s.tick + p.period.setWidth 32 } }) ∧
        ∀ l, t.line l =
          (if (s.slotAt h.slot.toNat).body.lineSet.getLsbD l.val = true ∧ set.getLsbD l.val = false then
             (s.line l).dropPublish { slot := h.slot.toNat, gen := h.gen }
           else s.line l)) ∧
    (((s.slotAt h.slot.toNat).kind ≠ some .exported ∨ decodeExport p ≠ none) →
      ((s.slotAt h.slot.toNat).integrity = .single →
        ∃ t, exec (.modify h a) (s.corrected .command h.slot.toNat) = .next t ∧
          exec (.modify h a) s = .next { t with miso := s.commandOut 12 }) ∧
      ((s.slotAt h.slot.toNat).integrity = .double →
        exec (.modify h a) s = .next ((s.engineAnswered 12 .faulted []).lostRecord .command h.slot.toNat)))

/-- RETIRE empties the slot of a current handle in any state, with the common effects of R17 and no notice, and reads no body;
a handle that is not current answers STALE_HANDLE (R153). -/
def Obligations.RetireEmptiesTheSlot : Prop :=
  ∀ (h : HandleArg) (s : State), s.servesHost = true → s.engineFree = true → h.slot.toNat < 512 →
    (s.names h = false → exec (.retire h) s = .next (s.engineAnswered 3 .staleHandle [])) ∧
    (s.names h = true → ∃ t, exec (.retire h) s = .next t ∧
      { t with lines := s.lines } =
        { (s.engineAnswered 3 .ok []).withSlot h.slot.toNat
            { state := .empty, kind := none, gen := (s.slotAt h.slot.toNat).gen, key := none, held := false, expiredHold := false,
              missed := (s.slotAt h.slot.toNat).missed, body := Body.empty, integrity := .clean } with
          holds := s.holds.filter fun e => e.slot != h.slot.toNat } ∧
      ∀ l, t.line l = (s.line l).dropPublish { slot := h.slot.toNat, gen := h.gen })

/-- HOLD (R155): a limit of 0 answers BAD_ARGUMENT; then STALE_HANDLE, FAULTED, ALREADY_HELD and HOLD_LIMIT, each with no other
change; else an entry is added that starts at the current tick, the held mark is set and the expired-hold mark is cleared. -/
def Obligations.HoldAddsAnEntry : Prop :=
  ∀ (h : HandleArg) (limit : Byte) (s : State), s.servesHost = true → h.slot.toNat < 512 →
    (limit = 0 → exec (.hold h limit) s = .next (s.answered 4 .badArgument [])) ∧
    (limit ≠ 0 → s.engineFree = true →
      (s.names h = false → exec (.hold h limit) s = .next (s.engineAnswered 4 .staleHandle [])) ∧
      (s.names h = true → (s.slotAt h.slot.toNat).state = .faulted →
        exec (.hold h limit) s = .next (s.engineAnswered 4 .faulted [])) ∧
      (s.names h = true → (s.slotAt h.slot.toNat).state ≠ .faulted →
        ((s.slotAt h.slot.toNat).held = true → exec (.hold h limit) s = .next (s.engineAnswered 4 .alreadyHeld [])) ∧
        ((s.slotAt h.slot.toNat).held = false → 16 ≤ s.holds.length →
          exec (.hold h limit) s = .next (s.engineAnswered 4 .holdLimit [])) ∧
        ((s.slotAt h.slot.toNat).held = false → s.holds.length < 16 →
          exec (.hold h limit) s = .next
            { (s.engineAnswered 4 .ok (tickBytes s.tick)).withSlot h.slot.toNat
                { s.slotAt h.slot.toNat with held := true, expiredHold := false } with
              holds := s.holds ++
                [{ slot := h.slot.toNat, gen := h.gen, start := s.tick, limit := limit, update := none, superseded := 0 }] })))

/-- RELEASE (R156): DISCARD, or APPLY with no pending update, ends the hold and leaves the record; APPLY with one sets value,
stamp and source from it, counts it, makes the record FRESH and posts RECOVERED and CHANGED as R95 asks; without a hold it answers
TOO_LATE or NOT_HELD. The read of APPLY corrects a single error in the body and goes on (R54); a double one makes the record FAULTED,
with its hold entry and pending update gone, and RELEASE answers FAULTED and applies nothing (R55, R56). -/
def Obligations.ReleaseEndsAHold : Prop :=
  ∀ (h : HandleArg) (choice : Byte) (s : State), s.servesHost = true → s.engineFree = true → h.slot.toNat < 512 →
    (choice = 0 ∨ choice = 1) → s.names h = true → (s.slotAt h.slot.toNat).state ≠ .faulted →
    (∀ e, (s.slotAt h.slot.toNat).held = true → s.holdOf h.slot.toNat = some e → (choice = 1 ∨ e.update = none) →
      exec (.release h choice) s = .next
        { (s.engineAnswered 4 .ok [boolByte e.update.isSome, e.superseded]).withSlot h.slot.toNat
            { s.slotAt h.slot.toNat with held := false } with
          holds := s.holds.filter fun x => x.slot != h.slot.toNat }) ∧
    (∀ e u, (s.slotAt h.slot.toNat).held = true → s.holdOf h.slot.toNat = some e → choice = 0 → e.update = some u →
      (s.slotAt h.slot.toNat).integrity = .clean →
      ∃ t, exec (.release h choice) s = .next t ∧ t.slot = .done .ok [1, e.superseded] ∧
        t.holds = (s.holds.filter fun x => x.slot != h.slot.toNat) ∧
        (t.slotAt h.slot.toNat).state = .fresh ∧ (t.slotAt h.slot.toNat).held = false ∧
        (t.slotAt h.slot.toNat).body = { (s.slotAt h.slot.toNat).body with
          value := some u.value, stamp := u.stamp, source := .node u.source, count := sat8 (s.slotAt h.slot.toNat).body.count } ∧
        t.notices = (s.updateNotices h.slot.toNat u.value).notices ∧
        t.conditions = (s.updateNotices h.slot.toNat u.value).conditions ∧
        (t.slotAt h.slot.toNat).missed = ((s.updateNotices h.slot.toNat u.value).slotAt h.slot.toNat).missed ∧
        (∀ j, j ≠ h.slot.toNat → t.slotAt j = s.slotAt j) ∧ t.lines = s.lines ∧ t.tick = s.tick ∧ t.sweep = s.sweep ∧
        t.capture = s.capture ∧ t.layout = s.layout ∧ t.mode = s.mode ∧ t.active = s.active ∧ t.staged = s.staged) ∧
    (∀ e u, (s.slotAt h.slot.toNat).held = true → s.holdOf h.slot.toNat = some e → choice = 0 → e.update = some u →
      ((s.slotAt h.slot.toNat).integrity = .single →
        ∃ t, exec (.release h choice) (s.corrected .command h.slot.toNat) = .next t ∧
          exec (.release h choice) s = .next { t with miso := s.commandOut 4 }) ∧
      ((s.slotAt h.slot.toNat).integrity = .double →
        exec (.release h choice) s = .next ((s.engineAnswered 4 .faulted []).lostRecord .command h.slot.toNat))) ∧
    ((s.slotAt h.slot.toNat).held = false → (s.slotAt h.slot.toNat).expiredHold = true →
      exec (.release h choice) s = .next ((s.engineAnswered 4 .tooLate []).withSlot h.slot.toNat
        { s.slotAt h.slot.toNat with expiredHold := false })) ∧
    ((s.slotAt h.slot.toNat).held = false → (s.slotAt h.slot.toNat).expiredHold = false →
      exec (.release h choice) s = .next (s.engineAnswered 4 .notHeld []))

/-- A handle whose slot is above 511 answers BAD_ARGUMENT at the port, and so do the arguments of WRITE, MODIFY and RELEASE that are out of
range (R147, R151, R152, R156). A handle that is not current then answers STALE_HANDLE and a FAULTED record FAULTED (R147, R11). Nothing
else changes. -/
def Obligations.StaleAndFaultedHandlesAreRefused : Prop :=
  ∀ (h : HandleArg) (v : ValueArg) (a : PolicyArg) (publishNow limit choice : Byte) (s : State), s.servesHost = true →
    (511 < h.slot.toNat →
      exec (.read h) s = .next (s.answered 3 .badArgument []) ∧
      exec (.write h v publishNow) s = .next (s.answered 13 .badArgument []) ∧
      exec (.modify h a) s = .next (s.answered 12 .badArgument []) ∧
      exec (.retire h) s = .next (s.answered 3 .badArgument []) ∧
      exec (.hold h limit) s = .next (s.answered 4 .badArgument []) ∧
      exec (.release h choice) s = .next (s.answered 4 .badArgument [])) ∧
    ((8 < v.len.toNat ∨ 1 < publishNow.toNat) → exec (.write h v publishNow) s = .next (s.answered 13 .badArgument [])) ∧
    ((126 < a.owner.toNat ∨ 2 < a.updateNotice.toNat ∨ 1 < a.edgeNotice.toNat) →
      exec (.modify h a) s = .next (s.answered 12 .badArgument [])) ∧
    (1 < choice.toNat → exec (.release h choice) s = .next (s.answered 4 .badArgument [])) ∧
    (s.engineFree = true → h.slot.toNat < 512 → (decodeValue v).isSome = true →
      (decodePolicy a).isSome = true → (publishNow = 0 ∨ publishNow = 1) → limit ≠ 0 → (choice = 0 ∨ choice = 1) →
      (s.names h = false →
        exec (.read h) s = .next (s.engineAnswered 3 .staleHandle []) ∧
        exec (.write h v publishNow) s = .next (s.engineAnswered 13 .staleHandle []) ∧
        exec (.modify h a) s = .next (s.engineAnswered 12 .staleHandle []) ∧
        exec (.hold h limit) s = .next (s.engineAnswered 4 .staleHandle []) ∧
        exec (.release h choice) s = .next (s.engineAnswered 4 .staleHandle [])) ∧
      (s.names h = true → (s.slotAt h.slot.toNat).state = .faulted →
        exec (.write h v publishNow) s = .next (s.engineAnswered 13 .faulted []) ∧
        exec (.modify h a) s = .next (s.engineAnswered 12 .faulted []) ∧
        exec (.hold h limit) s = .next (s.engineAnswered 4 .faulted []) ∧
        exec (.release h choice) s = .next (s.engineAnswered 4 .faulted [])))

/-- UPSET takes a clean body to single and any other to double (R52). A READ that finds a single error corrects it and answers as
for a clean body (R54); one that finds a double error makes the record FAULTED, removes its hold entry and PUBLISH entries, posts FAULTED,
sets FAULT_UNCORRECTABLE, offers the capture an UNCORRECTABLE event, and answers its directory part (R55, R56). -/
def Obligations.UpsetsAndBodyReads : Prop :=
  ∀ (h : HandleArg) (s : State), s.resetHeld = false → h.slot.toNat < 512 →
    ((s.slotAt h.slot.toNat).integrity = .clean →
      exec (.upset h.slot.toNat) s = .next (s.withSlot h.slot.toNat { s.slotAt h.slot.toNat with integrity := .single })) ∧
    ((s.slotAt h.slot.toNat).integrity ≠ .clean →
      exec (.upset h.slot.toNat) s = .next (s.withSlot h.slot.toNat { s.slotAt h.slot.toNat with integrity := .double })) ∧
    (s.servesHost = true → s.engineFree = true → s.names h = true → (s.slotAt h.slot.toNat).state ≠ .faulted →
      ((s.slotAt h.slot.toNat).integrity = .single →
        exec (.read h) s = .next
          { (s.engineAnswered 3 .ok (recordImage h.slot.toNat (s.slotAt h.slot.toNat) (s.holdOf h.slot.toNat))).withSlot h.slot.toNat
              { s.slotAt h.slot.toNat with integrity := .clean } with
            conditions := { s.conditions with faultCorrected := true },
            capture := (captureAfter s.capture
              { corrected := true, slot := h.slot.toNat, gen := h.gen, source := .command, tick := s.tick, overwritten := false }) }) ∧
      ((s.slotAt h.slot.toNat).integrity = .double →
        ∃ t, exec (.read h) s = .next t ∧
          { t with
            slots := s.slots, holds := s.holds, lines := s.lines, notices := s.notices, conditions := s.conditions,
            capture := s.capture } = s.engineAnswered 3 .faulted (directoryImage h.slot.toNat (t.slotAt h.slot.toNat)) ∧
          t.slotAt h.slot.toNat = { s.slotAt h.slot.toNat with
            state := .faulted, held := false,
            missed := ((s.post { slot := h.slot.toNat, gen := h.gen } .faulted).slotAt h.slot.toNat).missed } ∧
          (∀ j, j ≠ h.slot.toNat → t.slotAt j = s.slotAt j) ∧
          t.holds = (s.holds.filter fun e => e.slot != h.slot.toNat) ∧
          t.notices = (s.post { slot := h.slot.toNat, gen := h.gen } .faulted).notices ∧
          t.conditions = { (s.post { slot := h.slot.toNat, gen := h.gen } .faulted).conditions with faultUncorrectable := true } ∧
          t.capture = (captureAfter s.capture
            { corrected := false, slot := h.slot.toNat, gen := h.gen, source := .command, tick := s.tick, overwritten := false }) ∧
          ∀ l, t.line l = (s.line l).dropPublish { slot := h.slot.toNat, gen := h.gen }))

/-! ## Table commands -/

/-- SET_LAYOUT (R15): WRONG_MODE outside CONFIG; BAD_ARGUMENT for a size above 512 or sizes that are not 512 together; LAYOUT_CONFLICT when
an occupied bound or export record would lie outside its region; else every learned record is retired with the effects of R17 and an
EVICTED, LAYOUT notice in slot order, the layout and the victim pointer move, and the number retired is the answer. -/
def Obligations.SetLayoutMovesTheRegions : Prop :=
  ∀ (b l e : Half) (s : State), s.servesHost = true →
    (s.mode ≠ .config → exec (.setLayout b l e) s = .next (s.answered 6 .wrongMode [])) ∧
    (s.mode = .config →
      (512 < b.toNat ∨ 512 < l.toNat ∨ 512 < e.toNat ∨ b.toNat + l.toNat + e.toNat ≠ 512) →
      exec (.setLayout b l e) s = .next (s.answered 6 .badArgument [])) ∧
    (s.mode = .config → s.engineFree = true → b.toNat + l.toNat + e.toNat = 512 →
      ((∃ i < 512, (s.slotAt i).state ≠ .empty ∧
          (((s.slotAt i).kind = some .bound ∧ b.toNat ≤ i) ∨ ((s.slotAt i).kind = some .exported ∧ i < b.toNat + l.toNat))) →
        exec (.setLayout b l e) s = .next (s.engineAnswered 6 .layoutConflict [])) ∧
      ((∀ i < 512, (s.slotAt i).state ≠ .empty →
          ((s.slotAt i).kind = some .bound → i < b.toNat) ∧ ((s.slotAt i).kind = some .exported → b.toNat + l.toNat ≤ i)) →
        ∃ t, exec (.setLayout b l e) s = .next t ∧
          { t with slots := s.slots, holds := s.holds, lines := s.lines, notices := s.notices, conditions := s.conditions } =
            { s.engineAnswered 6 .ok (halfBytes (BitVec.ofNat 16 ((List.range 512).countP fun i => (s.slotAt i).isLearned))) with
              layout := { b := b.toNat, l := l.toNat, e := e.toNat }, victim := b.toNat } ∧
          (∀ i, ((s.slotAt i).isLearned = true → t.slotAt i =
              { state := .empty, kind := none, gen := (s.slotAt i).gen, key := none, held := false, expiredHold := false,
                missed := ((s.evictions Slot.isLearned .layout).slotAt i).missed, body := Body.empty, integrity := .clean }) ∧
            ((s.slotAt i).isLearned = false → t.slotAt i = s.slotAt i)) ∧
          t.holds = (s.holds.filter fun e => !(s.slotAt e.slot).isLearned) ∧
          (∀ k, t.line k = s.lineWithout Slot.isLearned k) ∧
          t.notices = (s.evictions Slot.isLearned .layout).notices ∧
          t.conditions = (s.evictions Slot.isLearned .layout).conditions ∧
          (s.notices = [] → ((List.range 512).countP fun i => (s.slotAt i).isLearned) ≤ 64 →
            t.conditions = s.conditions ∧ (∀ i, (t.slotAt i).missed = (s.slotAt i).missed) ∧
            t.notices = ((List.range 512).filter fun i => (s.slotAt i).isLearned).map fun i =>
              { handle := s.handleAt i, kind := .evicted .layout, tick := s.tick, waited := 0 })))

/-- PURGE starts at slot 0 and keeps the slot PENDING, or answers BAD_ARGUMENT for an argument out of range (R19). A granted PURGE_VISIT
(R20) counts as a grant to the command slot and retires the record of its slot, with no notice, if it is occupied, lies in a region of the
region set, has the line of the PURGE or any line under ANY, and is STALE under STALE_ONLY, or, when FAULTED, under faulted-too alone; the
visit to slot 511 completes the command with the number retired. -/
def Obligations.PurgeWalksTheTable : Prop :=
  ∀ s : State,
    (∀ (regions line filter faultedToo : Byte), s.servesHost = true →
      (∀ f : PurgeFilter, decodePurge regions line filter faultedToo = some f →
        exec (.purge regions line filter faultedToo) s = .next { s with
          miso := s.commandOut 4, refused := false, slot := .pending (.purge f), purge := some { pos := 0, retired := 0 } }) ∧
      (∀ (named : Option LineId) (staleOnly faulted : Bool), 1 ≤ regions.toNat → regions.toNat ≤ 7 → line = lineCode named →
        filter = boolByte staleOnly → faultedToo = boolByte faulted →
        decodePurge regions line filter faultedToo = some
          { bound := regions.getLsbD 0, learned := regions.getLsbD 1, exported := regions.getLsbD 2, line := named,
            staleOnly := staleOnly, faultedToo := faulted }) ∧
      ((regions = 0 ∨ 7 < regions.toNat ∨ (3 < line.toNat ∧ line ≠ 0xFF) ∨ 1 < filter.toNat ∨ 1 < faultedToo.toNat) →
        exec (.purge regions line filter faultedToo) s = .next (s.answered 4 .badArgument []))) ∧
    (∀ (f : PurgeFilter) (p : PurgeRun), s.resetHeld = false → s.slot = .pending (.purge f) → s.purge = some p → p.pos < 512 →
      s.grantNext = some .command →
      let hit := (s.slotAt p.pos).state ≠ .empty ∧
        (if p.pos < s.layout.b then f.bound = true else if p.pos < s.layout.b + s.layout.l then f.learned = true
         else f.exported = true) ∧
        (f.line = none ∨ ∃ k, (s.slotAt p.pos).key = some k ∧ k.line = f.line) ∧
        ((s.slotAt p.pos).state = .faulted → f.faultedToo = true) ∧
        ((s.slotAt p.pos).state ≠ .faulted → f.staleOnly = true → (s.slotAt p.pos).state = .stale)
      ∃ t, exec .purgeVisit s = .next t ∧
        { t with slots := s.slots, holds := s.holds, lines := s.lines, purge := s.purge, slot := s.slot } =
          { s with arb := s.grantCommand.arb } ∧
        (∀ j, j ≠ p.pos → t.slotAt j = s.slotAt j) ∧
        (hit →
          t.slotAt p.pos =
            { state := .empty, kind := none, gen := (s.slotAt p.pos).gen, key := none, held := false, expiredHold := false,
              missed := (s.slotAt p.pos).missed, body := Body.empty, integrity := .clean } ∧
          t.holds = (s.holds.filter fun e => e.slot != p.pos) ∧
          (∀ l, t.line l = (s.line l).dropPublish { slot := p.pos, gen := (s.slotAt p.pos).gen }) ∧
          (p.pos < 511 → t.purge = some { pos := p.pos + 1, retired := p.retired + 1 } ∧ t.slot = s.slot) ∧
          (p.pos = 511 → t.purge = none ∧ t.slot = .done .ok (halfBytes (BitVec.ofNat 16 (p.retired + 1))))) ∧
        (¬hit →
          t.slotAt p.pos = s.slotAt p.pos ∧ t.holds = s.holds ∧ t.lines = s.lines ∧
          (p.pos < 511 → t.purge = some { pos := p.pos + 1, retired := p.retired } ∧ t.slot = s.slot) ∧
          (p.pos = 511 → t.purge = none ∧ t.slot = .done .ok (halfBytes (BitVec.ofNat 16 p.retired)))))

/-- While a line or a sweep requests the engine, every table command that passes the port's checks waits PENDING (the grant in the
taking step of a command on an idle engine is the model's reading, log 2); TABLE_COMMAND_OPERATION is the grant of every table command
but PURGE (R44, R49): it moves the arbiter's counters (R50) and stores the command's result, as FIND and HOLD show. The arbiter grants the
sweep by its share, else the command slot when no line requests or the run is below the field share, else the first requesting line
counting up from the one after the line pointer, else the sweep, else nobody (R44, R45, R47, R49); in STARTING it grants nobody (R48). An
operation that is not granted changes nothing (log 1). Each kind of grant moves the run, the line pointer and the sweep-wait count (R50). -/
def Obligations.TableCommandsWaitForTheirGrant : Prop :=
  ∀ s : State,
    (s.servesHost = true → s.engineFree = false →
      (∀ k key, decodeKey k = some key → exec (.find k) s = .next { s with
        miso := s.commandOut 7, refused := false, slot := .pending (.find key) }) ∧
      (∀ h : HandleArg, h.slot.toNat < 512 → exec (.retire h) s = .next { s with
        miso := s.commandOut 3, refused := false, slot := .pending (.retire { slot := h.slot.toNat, gen := h.gen }) }) ∧
      (∀ region k a c, decodeCreate region k a = some c →
        exec (.create region k a) s = .next { s with miso := s.commandOut 17, refused := false, slot := .pending c }) ∧
      (∀ h : HandleArg, h.slot.toNat < 512 → exec (.read h) s = .next { s with
        miso := s.commandOut 3, refused := false, slot := .pending (.read { slot := h.slot.toNat, gen := h.gen }) }) ∧
      (∀ h v publishNow c, decodeWrite h v publishNow = some c →
        exec (.write h v publishNow) s = .next { s with miso := s.commandOut 13, refused := false, slot := .pending c }) ∧
      (∀ h a c, decodeModify h a = some c →
        exec (.modify h a) s = .next { s with miso := s.commandOut 12, refused := false, slot := .pending c }) ∧
      (∀ h limit c, decodeHold h limit = some c →
        exec (.hold h limit) s = .next { s with miso := s.commandOut 4, refused := false, slot := .pending c }) ∧
      (∀ h choice c, decodeRelease h choice = some c →
        exec (.release h choice) s = .next { s with miso := s.commandOut 4, refused := false, slot := .pending c }) ∧
      (∀ b l e y, s.mode = .config → decodeLayout b l e = some y →
        exec (.setLayout b l e) s = .next { s with miso := s.commandOut 6, refused := false, slot := .pending (.setLayout y) })) ∧
    (s.resetHeld = false → s.grantNext = some .command →
      (∀ c, s.slot = .pending c → c.isTable = true → (∀ f, c ≠ .purge f) →
        exec .tableCommandOperation s = .next (s.grantCommand.tableOperation c)) ∧
      (∀ key, s.slot = .pending (.find key) → s.keyFree key = true →
        exec .tableCommandOperation s = .next { s with arb := s.grantCommand.arb, slot := .done .notFound [] }) ∧
      (∀ h limit, s.slot = .pending (.hold h limit) → s.isCurrent h = true → (s.slotAt h.slot).state ≠ .faulted →
        (s.slotAt h.slot).held = false → s.holds.length < 16 →
        exec .tableCommandOperation s = .next
          { s.withSlot h.slot { s.slotAt h.slot with held := true, expiredHold := false } with
            arb := s.grantCommand.arb, slot := .done .ok (tickBytes s.tick)
            holds := s.holds ++
              [{ slot := h.slot, gen := h.gen, start := s.tick, limit := limit, update := none, superseded := 0 }] })) ∧
    (let lineAsks := fun l : LineId =>
       (s.line l).restartRequest = true ∨ ((s.mode = .run ∨ s.mode = .listen) ∧ (s.line l).rxQueue ≠ [])
     let commandAsks := ∃ c, s.slot = .pending c ∧ (∀ m, c ≠ .requestMode m) ∧ c ≠ .reset
     (s.mode = .starting → s.grantNext = none) ∧
     (s.mode ≠ .starting →
       (s.sweep ≠ none → s.arb.sweepShare ≤ s.arb.sweepWait → s.grantNext = some .sweep) ∧
       ((s.sweep = none ∨ s.arb.sweepWait < s.arb.sweepShare) →
         (commandAsks → ((∀ l, ¬lineAsks l) ∨ s.arb.run < s.arb.fieldShare) → s.grantNext = some .command) ∧
         ((¬commandAsks ∨ s.arb.fieldShare ≤ s.arb.run) → ∀ k : Fin 4, lineAsks (s.arb.pointer + 1 + k) →
           (∀ j < k, ¬lineAsks (s.arb.pointer + 1 + j)) → s.grantNext = some (.line (s.arb.pointer + 1 + k))) ∧
         (¬commandAsks → (∀ l, ¬lineAsks l) →
           (s.sweep ≠ none → s.grantNext = some .sweep) ∧ (s.sweep = none → s.grantNext = none)))) ∧
     (s.resetHeld = false →
       (s.grantNext ≠ some .command →
         exec .tableCommandOperation s = .next s ∧ exec .purgeVisit s = .next s) ∧
       (s.grantNext ≠ some .sweep → exec .sweepVisit s = .next s) ∧
       (∀ l, s.grantNext ≠ some (.line l) →
         exec (.update l) s = .next s ∧ exec (.query l) s = .next s ∧ exec (.withdraw l) s = .next s ∧
         exec (.restartPurge l) s = .next s)) ∧
     (let waited := if s.sweep = none then s.arb.sweepWait else s.arb.sweepWait + 1
      ((∃ l, lineAsks l) → s.grantCommand = { s with arb := { s.arb with run := s.arb.run + 1, sweepWait := waited } }) ∧
      ((∀ l, ¬lineAsks l) → s.grantCommand = { s with arb := { s.arb with run := 0, sweepWait := waited } }) ∧
      (∀ l, s.grantLine l = { s with arb := { s.arb with run := 0, pointer := l, sweepWait := waited } }) ∧
      s.grantSweep = { s with arb := { s.arb with sweepWait := 0 } }))

/-! ## Class store, shares and timing -/

/-- SET_CLASS and SET_MASK change one class or mask of the staged set alone (R34, R35); READ_CLASS changes nothing (R36); COMMIT_CLASSES
installs in CONFIG and sets the mark in RUN and LISTEN (R37, R38). SET_CLASS, SET_MASK and READ_CLASS answer BAD_ARGUMENT for an argument
out of range, and change nothing. -/
def Obligations.ClassStoreCommands : Prop :=
  ∀ s : State, s.servesHost = true →
    (∀ a n c, decodeClass a = some (n, c) → exec (.setClass a) s = .next
      { s.answered 15 .ok [] with staged := { s.staged with classes := s.staged.classes.set n.val c n.isLt } }) ∧
    (∀ a, decodeClass a = none → exec (.setClass a) s = .next (s.answered 15 .badArgument [])) ∧
    (∀ (number : Byte) (mask : Tri) (n : Fin 4), number = BitVec.ofNat 8 n.val → mask.toNat < 2 ^ 20 →
      exec (.setMask number mask) s = .next
        { s.answered 4 .ok [] with
          staged := { s.staged with masks := s.staged.masks.set n.val (mask.extractLsb' 0 20) n.isLt } }) ∧
    (∀ (number : Byte) (mask : Tri), (3 < number.toNat ∨ 1048575 < mask.toNat) →
      exec (.setMask number mask) s = .next (s.answered 4 .badArgument [])) ∧
    (∀ copy number : Byte, (1 < copy.toNat ∨ 15 < number.toNat) →
      exec (.readClass copy number) s = .next (s.answered 2 .badArgument [])) ∧
    (∀ (copy : Byte) (n : Fin 16), copy = 0 ∨ copy = 1 →
      exec (.readClass copy (BitVec.ofNat 8 n.val)) s = .next (s.answered 2 .ok
        (classBytes ((if copy = 1 then s.staged else s.active).classes.get n) ++
          maskBytes (if copy = 1 then s.staged else s.active) ++ [boolByte s.commitRequested]))) ∧
    (s.mode = .config → exec .commitClasses s = .next
      { s.answered 0 .ok [0] with active := s.staged, commitRequested := false }) ∧
    (s.mode ≠ .config → exec .commitClasses s = .next { s.answered 0 .ok [1] with commitRequested := true })

/-- SET_SHARES and SET_TIMING answer WRONG_MODE outside CONFIG and BAD_ARGUMENT out of range, and else set their two values; SET_SHARES
also sets the run and the sweep-wait count to 0 and keeps the line pointer (R51, R118). -/
def Obligations.SharesAndTimingAreSetInConfig : Prop :=
  ∀ (x y : Byte) (expiry : Half) (s : State), s.portOpen = true →
    (s.mode ≠ .config →
      exec (.setShares x y) s = .next (s.answered 2 .wrongMode []) ∧
      exec (.setTiming x expiry) s = .next (s.answered 3 .wrongMode [])) ∧
    (s.mode = .config →
      (1 ≤ x.toNat → x.toNat ≤ 15 → 1 ≤ y.toNat → exec (.setShares x y) s = .next
        { s.answered 2 .ok [x, y] with
          arb := { fieldShare := x.toNat, sweepShare := y.toNat, run := 0, pointer := s.arb.pointer, sweepWait := 0 } }) ∧
      ((x.toNat = 0 ∨ 15 < x.toNat ∨ y.toNat = 0) → exec (.setShares x y) s = .next (s.answered 2 .badArgument [])) ∧
      (1 ≤ x.toNat → x.toNat ≤ 250 → exec (.setTiming x expiry) s = .next
        { s.answered 3 .ok [] with tickPeriod := x.toNat, learnedExpiry := expiry }) ∧
      ((x.toNat = 0 ∨ 250 < x.toNat) → exec (.setTiming x expiry) s = .next (s.answered 3 .badArgument [])))

/-! ## Line commands -/

/-- SET_LINE (R60): in CONFIG any setting; in RUN and LISTEN WRONG_MODE when a setting other than enabled differs, nothing when none
does; an enable event flushes the line where flush-on-enable asks for it and puts the receiver in WAITING (R81; with a frame being sent
or a PAUSE in flight, logs 10 and 11, DEDUCED); a disable event stops the receiver, empties the pause set and flushes the line where
flush-on-disable asks for it (R82). -/
def Obligations.SetLineWritesTheSettings : Prop :=
  ∀ (a : LineArg) (s : State), s.servesHost = true →
    (decodeSettings a = none → exec (.setLine a) s = .next (s.answered 13 .badArgument [])) ∧
    (∀ l t, decodeSettings a = some (l, t) →
      (s.mode = .config → exec (.setLine a) s = .next
        ((s.answered 13 .ok []).withLine l { s.line l with settings := t })) ∧
      (s.mode ≠ .config → { t with enabled := (s.line l).settings.enabled } ≠ (s.line l).settings →
        exec (.setLine a) s = .next (s.answered 13 .wrongMode [])) ∧
      (s.mode ≠ .config → t = (s.line l).settings → exec (.setLine a) s = .next (s.answered 13 .ok [])) ∧
      (s.mode ≠ .config → { t with enabled := true } = (s.line l).settings → t.enabled = false → t.flushOnDisable = false →
        exec (.setLine a) s = .next
          ((s.answered 13 .ok []).withLine l { s.line l with settings := t, rx := .stopped, pauseSet := [] })) ∧
      (s.mode ≠ .config → { t with enabled := true } = (s.line l).settings → t.enabled = false → t.flushOnDisable = true →
        exec (.setLine a) s = .next ((s.answered 13 .ok []).withLine l
          (LineState.afterFlush s.flowActs { s.line l with settings := t, rx := .stopped, pauseSet := [] }))) ∧
      (s.mode ≠ .config → { t with enabled := false } = (s.line l).settings → t.enabled = true →
        exec (.setLine a) s = .next ((s.answered 13 .ok []).withLine l
          (LineState.afterEnable s.flowActs { s.line l with settings := t }))))

/-- READ_LINE and READ_TIMING answer the state they show and change nothing (R61, R119); in STANDBY they answer WRONG_MODE. The
zeros for a hold that does not run and for a sweep that is not in flight are the model's choice (logs 12 and 25). -/
def Obligations.LineAndTimingReadsChangeNothing : Prop :=
  ∀ s : State,
    (s.portOpen = true → s.mode = .standby →
      exec .readTiming s = .next (s.answered 0 .wrongMode []) ∧
      ∀ line : Byte, exec (.readLine line) s = .next (s.answered 1 .wrongMode [])) ∧
    (s.servesHost = true →
      (∀ l : LineId, exec (.readLine (BitVec.ofNat 8 l.val)) s = .next (s.answered 1 .ok (lineBytes (s.lineActive l) (s.line l)))) ∧
      (∀ line : Byte, 3 < line.toNat → exec (.readLine line) s = .next (s.answered 1 .badArgument [])) ∧
      (s.sweep = none → exec .readTiming s = .next (s.answered 0 .ok
        ([byteOf s.tickPeriod] ++ halfBytes s.learnedExpiry ++ tickBytes s.tick ++ List.replicate 7 0 ++ [boolByte s.sweepOwed]))) ∧
      (∀ w, s.sweep = some w → exec .readTiming s = .next (s.answered 0 .ok
        ([byteOf s.tickPeriod] ++ halfBytes s.learnedExpiry ++ tickBytes s.tick ++
          ([1] ++ tickBytes w.now ++ halfBytes (BitVec.ofNat 16 w.pos)) ++ [boolByte s.sweepOwed]))))

/-- READ_COUNTERS answers WRONG_MODE in STANDBY and BAD_ARGUMENT for a line above 3 or a clear value other than yes or no; else it answers the
eight values as they stand and, with clear yes, sets all eight to 0 in the same step (R86). -/
def Obligations.ReadCountersReadsAndClears : Prop :=
  ∀ (line clear : Byte) (s : State), s.portOpen = true →
    (s.mode = .standby → exec (.readCounters line clear) s = .next (s.answered 2 .wrongMode [])) ∧
    (s.mode ≠ .standby → (3 < line.toNat ∨ 1 < clear.toNat) →
      exec (.readCounters line clear) s = .next (s.answered 2 .badArgument [])) ∧
    (s.mode ≠ .standby → ∀ l : LineId, line = BitVec.ofNat 8 l.val →
      (clear = 0 → exec (.readCounters line clear) s = .next (s.answered 2 .ok (counterBytes (s.line l).counters))) ∧
      (clear = 1 → exec (.readCounters line clear) s = .next
        ((s.answered 2 .ok (counterBytes (s.line l).counters)).withLine l { s.line l with counters := Counters.zero })))

/-- LINE_HOLD answers WRONG_MODE in CONFIG and BAD_ARGUMENT for a line above 3 or a restart option other than yes or no; else it starts,
replaces, ends or cancels a hold by its state (R78 to R80). LINE_HOLD_END ends a counted hold that is BREAKING, with a restart request
where the hold carries the option; that it does so whatever duration remains is the model's choice (log 5). -/
def Obligations.LineHoldsBreakAndEnd : Prop :=
  ∀ (l : LineId) (duration : Half) (restart : Bool) (s : State),
    (s.portOpen = true → s.mode = .config → exec (.lineHold (BitVec.ofNat 8 l.val) duration (boolByte restart)) s = .next (s.answered 4 .wrongMode [])) ∧
    (s.portOpen = true → (s.mode = .run ∨ s.mode = .listen) → ∀ line option : Byte, (3 < line.toNat ∨ 1 < option.toNat) →
      exec (.lineHold line duration option) s = .next (s.answered 4 .badArgument [])) ∧
    (s.portOpen = true → (s.mode = .run ∨ s.mode = .listen) → duration ≠ 0 →
      ((s.line l).hold = .off → (s.line l).flight = none →
        exec (.lineHold (BitVec.ofNat 8 l.val) duration (boolByte restart)) s = .next ((s.answered 4 .ok []).withLine l
          { s.line l with hold := .breaking duration restart, rx := .stopped, pauseSet := [] })) ∧
      ((s.line l).hold = .off → (s.line l).flight ≠ none →
        exec (.lineHold (BitVec.ofNat 8 l.val) duration (boolByte restart)) s = .next ((s.answered 4 .ok []).withLine l
          { s.line l with hold := .waiting duration restart })) ∧
      (∀ d r, (s.line l).hold = .waiting d r →
        exec (.lineHold (BitVec.ofNat 8 l.val) duration (boolByte restart)) s = .next ((s.answered 4 .ok []).withLine l
          { s.line l with hold := .waiting duration restart })) ∧
      (∀ d r, (s.line l).hold = .breaking d r →
        exec (.lineHold (BitVec.ofNat 8 l.val) duration (boolByte restart)) s = .next ((s.answered 4 .ok []).withLine l
          { s.line l with hold := .breaking duration restart }))) ∧
    (s.portOpen = true → (s.mode = .run ∨ s.mode = .listen) → duration = 0 →
      ((s.line l).hold = .off →
        exec (.lineHold (BitVec.ofNat 8 l.val) duration (boolByte restart)) s = .next (s.answered 4 .ok [])) ∧
      (∀ d r, (s.line l).hold = .waiting d r →
        exec (.lineHold (BitVec.ofNat 8 l.val) duration (boolByte restart)) s = .next ((s.answered 4 .ok []).withLine l
          { s.line l with hold := .off })) ∧
      (∀ d r, (s.line l).hold = .breaking d r →
        exec (.lineHold (BitVec.ofNat 8 l.val) duration (boolByte restart)) s = .next ((s.answered 4 .ok []).withLine l
          { s.line l with
            hold := .off, rx := if s.lineActive l then .waiting else .stopped, restartRequest := (s.line l).restartRequest || r }))) ∧
    (∀ d r, s.resetHeld = false → (s.line l).hold = .breaking d r → d ≠ 65535 →
      exec (.lineHoldEnd l) s = .next (s.withLine l
        { s.line l with
          hold := .off, rx := if s.lineActive l then .waiting else .stopped, restartRequest := (s.line l).restartRequest || r }))

/-- LINE_ABORT (R135) answers WRONG_MODE in STANDBY and BAD_ARGUMENT for a line above 3; else it empties a line's data part, counts
SKIPPED for each PUBLISH entry and UNANSWERED for each REPLY entry, answers both numbers, and leaves the control entry, the frame in
flight, the pause set and the hold as they were. -/
def Obligations.LineAbortEmptiesTheDataPart : Prop :=
  ∀ s : State,
    (∀ line : Byte, s.portOpen = true → s.mode = .standby → exec (.lineAbort line) s = .next (s.answered 1 .wrongMode [])) ∧
    (∀ line : Byte, s.servesHost = true → 3 < line.toNat → exec (.lineAbort line) s = .next (s.answered 1 .badArgument [])) ∧
    (s.servesHost = true → ∀ l : LineId,
      ∃ t, exec (.lineAbort (BitVec.ofNat 8 l.val)) s = .next t ∧
        t.slot = .done .ok
          [byteOf ((s.line l).data.countP DataEntry.isPublish), byteOf ((s.line l).data.countP fun e => !e.isPublish)] ∧
        (t.line l).data = [] ∧ { t.line l with data := (s.line l).data, counters := (s.line l).counters } = s.line l ∧
        (t.line l).counters =
          { (s.line l).counters with skipped := (t.line l).counters.skipped, unanswered := (t.line l).counters.unanswered } ∧
        (t.line l).counters.skipped.toNat =
          min 65535 ((s.line l).counters.skipped.toNat + (s.line l).data.countP DataEntry.isPublish) ∧
        (t.line l).counters.unanswered.toNat =
          min 65535 ((s.line l).counters.unanswered.toNat + (s.line l).data.countP fun e => !e.isPublish) ∧
        (∀ k, k ≠ l → t.line k = s.line k) ∧
        { t with lines := s.lines, slot := s.slot, miso := s.miso, refused := s.refused } = s)

/-! ## Notices, conditions, fault capture -/

/-- POP_NOTICE removes and answers the oldest entry with the number left, or answers EMPTY and changes nothing (R163). -/
def Obligations.PopNoticeTakesTheOldest : Prop :=
  ∀ s : State, s.servesHost = true →
    (s.notices = [] → exec .popNotice s = .next (s.answered 0 .empty [])) ∧
    (∀ e rest, s.notices = e :: rest →
      exec .popNotice s = .next { s.answered 0 .ok (noticeImage e ++ [byteOf rest.length]) with notices := rest })

/-- SCAN_MISSED clears the first missed mark at or above its start slot and answers the slot and the number of marks left, or answers
NOT_FOUND; a start above 511 answers BAD_ARGUMENT (R164). -/
def Obligations.ScanMissedClearsTheFirstMark : Prop :=
  ∀ (start : Half) (s : State), s.servesHost = true →
    (511 < start.toNat → exec (.scanMissed start) s = .next (s.answered 2 .badArgument [])) ∧
    (start.toNat ≤ 511 →
      ((∀ i < 512, start.toNat ≤ i → (s.slotAt i).missed = false) →
        exec (.scanMissed start) s = .next (s.answered 2 .notFound [])) ∧
      (∀ i < 512, start.toNat ≤ i → (s.slotAt i).missed = true → (∀ j < i, start.toNat ≤ j → (s.slotAt j).missed = false) →
        exec (.scanMissed start) s = .next ((s.answered 2 .ok
          (halfBytes (BitVec.ofNat 16 i) ++
            halfBytes (BitVec.ofNat 16 ((List.range 512).countP fun j => (s.slotAt j).missed && j != i)))).withSlot i
          { s.slotAt i with missed := false })))

/-- SET_NOTICE, SET_ROUTES and CLEAR_CONDITIONS set their own registers alone, or answer BAD_ARGUMENT and set nothing (R165, R167, R168).
NOTICE_N is asserted by a queue at its threshold or whose oldest entry has waited the hold-off, and by a set condition routed NOTICE
(R165); ALERT_N by a set condition routed ALERT (R167). -/
def Obligations.NoticeAndConditionSettings : Prop :=
  (∀ s : State,
    (∀ r, s.routed r = true ↔
      (s.conditions.lineOverrun = true ∧ s.routes.lineOverrun = r) ∨ (s.conditions.lineCollision = true ∧ s.routes.lineCollision = r) ∨
      (s.conditions.noticeOverflow = true ∧ s.routes.noticeOverflow = r) ∨ (s.conditions.sweepOverrun = true ∧ s.routes.sweepOverrun = r) ∨
      (s.conditions.faultCorrected = true ∧ s.routes.faultCorrected = r) ∨
      (s.conditions.faultUncorrectable = true ∧ s.routes.faultUncorrectable = r) ∨ (s.conditions.wake = true ∧ s.routes.wake = r)) ∧
    (s.noticeN = true ↔
      (s.notices ≠ [] ∧ s.threshold ≤ s.notices.length) ∨ (∃ e rest, s.notices = e :: rest ∧ s.holdOff ≤ e.waited) ∨
      s.routed .notice = true) ∧
    (s.alertN = true ↔ s.routed .alert = true)) ∧
  ∀ s : State, s.servesHost = true →
    (∀ threshold holdOff : Byte, 1 ≤ threshold.toNat → threshold.toNat ≤ 64 →
      exec (.setNotice threshold holdOff) s = .next
        { s.answered 2 .ok [] with threshold := threshold.toNat, holdOff := holdOff.toNat }) ∧
    (∀ threshold holdOff : Byte, (threshold.toNat = 0 ∨ 64 < threshold.toNat) →
      exec (.setNotice threshold holdOff) s = .next (s.answered 2 .badArgument [])) ∧
    (∀ a r, decodeRoutes a = some r → exec (.setRoutes a) s = .next { s.answered 7 .ok [] with routes := r }) ∧
    (∀ a, decodeRoutes a = none → exec (.setRoutes a) s = .next (s.answered 7 .badArgument [])) ∧
    (∀ flags : Byte, flags.toNat < 128 → ∃ left : Conditions,
      left.byte = s.conditions.byte &&& ~~~flags ∧
      exec (.clearConditions flags) s = .next { s.answered 1 .ok [left.byte] with conditions := left }) ∧
    (∀ flags : Byte, 128 ≤ flags.toNat → exec (.clearConditions flags) s = .next (s.answered 1 .badArgument []))

/-- READ_FAULT answers the capture and changes nothing; CLEAR_FAULT empties it and answers whether it was filled; a power-on reset
empties it, and a pin reset and a soft reset keep it (R170). An event fills an empty capture, an UNCORRECTABLE one overwrites a CORRECTED
one that has not been overwritten, and every other event leaves it (R169); it is offered with slot, generation, source and tick. -/
def Obligations.FaultCaptureReadClearAndResets : Prop :=
  ∀ s : State,
    (s.servesHost = true →
      exec .readFault s = .next (s.answered 0 .ok (captureImage s.capture)) ∧
      exec .clearFault s = .next { s.answered 0 .ok [boolByte s.capture.isSome] with capture := none }) ∧
    (∃ t, exec .powerOnReset s = .next t ∧ t.capture = none) ∧
    (∃ t, exec .pinReset s = .next t ∧ t.capture = s.capture) ∧
    (∃ t, exec .softReset s = .next t ∧ t.capture = s.capture) ∧
    (∀ event, captureAfter none event = some event) ∧
    (∀ kept event : Capture, kept.corrected = true → event.corrected = false → kept.overwritten = false →
      captureAfter (some kept) event = some { event with overwritten := true }) ∧
    (∀ kept event : Capture, (kept.corrected = false ∨ event.corrected = true ∨ kept.overwritten = true) →
      captureAfter (some kept) event = some kept) ∧
    (∀ corrected source i, s.offerCapture corrected source i = { s with
      capture := captureAfter s.capture
        { corrected := corrected, slot := i, gen := (s.slotAt i).gen, source := source, tick := s.tick, overwritten := false } })

/-- A posting (R161) for a handle with an entry merges into it by the table of R162: kind and reason change, place, tick and wait stay, and the
other entries are untouched; with no entry and fewer than 64 it joins at the tail; with 64 it is lost, and the slot's missed mark and
NOTICE_OVERFLOW are set. -/
def Obligations.NoticesMergeByTheTable : Prop :=
  ∀ (h : Handle) (posted : NoticeKind) (s : State),
    (∀ before behind pending tick waited,
      s.notices = before ++ { handle := h, kind := pending, tick := tick, waited := waited } :: behind →
      (∀ e ∈ before ++ behind, e.handle ≠ h) →
      s.post h posted = { s with notices := before ++ { handle := h, tick := tick, waited := waited, kind :=
        match pending with
        | .withdrawn => posted
        | .evicted _ => posted
        | .changed => (match posted with | .changed => .changed | .recovered => .changed | k => k)
        | .recovered => (match posted with | .changed => .recovered | .recovered => .recovered | k => k)
        | .stale => (match posted with | .changed => .stale | .recovered => .changed | k => k)
        | .created => (match posted with
            | .changed => .created | .recovered => .created | .stale => .created | .holdExpired => .created | k => k)
        | .holdExpired => (match posted with
            | .changed => .holdExpired | .recovered => .holdExpired | .stale => .holdExpired | .holdExpired => .holdExpired | k => k)
        | .faulted => (match posted with
            | .changed => .faulted | .recovered => .faulted | .stale => .faulted | .holdExpired => .faulted | k => k) } :: behind }) ∧
    ((∀ e ∈ s.notices, e.handle ≠ h) → s.notices.length < 64 →
      s.post h posted = { s with notices := s.notices ++ [{ handle := h, kind := posted, tick := s.tick, waited := 0 }] }) ∧
    ((∀ e ∈ s.notices, e.handle ≠ h) → 64 ≤ s.notices.length →
      s.post h posted = { s.withSlot h.slot { s.slotAt h.slot with missed := true } with
        conditions := { s.conditions with noticeOverflow := true } })

/-! ## Modes -/

/-- REQUEST_MODE (R172): BAD_ARGUMENT for a code that names no target; OK at once for the current mode; from STANDBY to RUN or
LISTEN it begins the resume; else the slot stays PENDING for the step of the transition, during a wake's resume too. That the target mode
is set in that step, and not by REQUEST_MODE, is the model's reading (log 23, DEDUCED). -/
def Obligations.RequestModeBeginsATransition : Prop :=
  ∀ (target : Byte) (s : State), s.portOpen = true →
    (decodeMode target = none → exec (.requestMode target) s = .next (s.answered 1 .badArgument [])) ∧
    (∀ m, decodeMode target = some m →
      (s.transition = none → m = s.mode → exec (.requestMode target) s = .next (s.answered 1 .ok [s.mode.code])) ∧
      (s.transition = none → s.mode = .standby → (m = .run ∨ m = .listen) →
        exec (.requestMode target) s = .next { s with
          miso := s.commandOut 1, refused := false, slot := .pending (.requestMode m), transition := some .resume, target := m }) ∧
      (s.transition ≠ none ∨ (m ≠ s.mode ∧ ¬(s.mode = .standby ∧ (m = .run ∨ m = .listen))) →
        exec (.requestMode target) s = .next { s with
          miso := s.commandOut 1, refused := false, slot := .pending (.requestMode m) }))

/-- IMMEDIATE_TRANSITION (R173), each of the requested moves as one step that completes the REQUEST_MODE; from CONFIG to RUN or LISTEN every
enabled line has its enable event (R81; with a frame being sent or a PAUSE in flight, logs 10 and 11, DEDUCED). -/
def Obligations.ImmediateTransitions : Prop :=
  ∀ s : State, s.resetHeld = false → s.transition = none →
    (s.mode = .config → s.slot = .pending (.requestMode .standby) →
      exec .immediateTransition s = .next
        { s with origin := some .config, mode := .standby, target := .standby, slot := .done .ok [4] }) ∧
    (s.mode = .standby → s.slot = .pending (.requestMode .config) →
      exec .immediateTransition s = .next
        { s with origin := none, mode := .config, target := .config, slot := .done .ok [1] }) ∧
    (s.mode = .listen → s.slot = .pending (.requestMode .run) →
      exec .immediateTransition s = .next { s with mode := .run, target := .run, slot := .done .ok [2] }) ∧
    (s.mode = .run → s.slot = .pending (.requestMode .listen) →
      ∃ t, exec .immediateTransition s = .next t ∧
        { t with lines := s.lines } = { s with mode := .listen, target := .listen, slot := .done .ok [3] } ∧
        ∀ l, t.line l = { s.line l with data := [], control := none, pauseSet := [], outstanding := false }) ∧
    (∀ m, (m = .run ∨ m = .listen) → s.mode = .config → s.slot = .pending (.requestMode m) →
      ∃ t, exec .immediateTransition s = .next t ∧
        { t with lines := s.lines, active := s.active, commitRequested := s.commitRequested } =
          { s with mode := m, target := m, prescale := 0, slot := .done .ok [m.code] } ∧
        t.active = (if s.commitRequested then s.staged else s.active) ∧ t.commitRequested = false ∧
        ∀ l, ((s.line l).settings.enabled = false → t.line l = s.line l) ∧
          ((s.line l).settings.enabled = true → t.line l = (s.line l).afterEnable (m == .run)))

/-- DRAIN_START stops the receivers, empties transmit queues and pause sets, cancels holds and abandons the sweep; DRAIN_END, once
every receive queue is empty, makes the mode the target and completes the REQUEST_MODE (R174, R126). -/
def Obligations.DrainsStartAndEnd : Prop :=
  ∀ s : State, s.resetHeld = false →
    (∀ m, s.transition = none → (s.mode = .run ∨ s.mode = .listen) → (m = .config ∨ m = .standby) →
      s.slot = .pending (.requestMode m) →
      ∃ t, exec .drainStart s = .next t ∧
        { t with lines := s.lines } = { s with
          sweep := none, sweepOwed := false, arb := { s.arb with sweepWait := 0 }, transition := some .drain, target := m } ∧
        ∀ l, t.line l = { s.line l with
          data := [], control := none, pauseSet := [], outstanding := false, rx := .stopped, hold := .off }) ∧
    (s.transition = some .drain → (∀ l, (s.line l).rxQueue = []) →
      exec .drainEnd s = .next { s with
        prescale := 0, transition := none, origin := if s.target = .standby then some s.mode else none, mode := s.target,
        slot := .done .ok [s.target.code] }) ∧
    (s.transition = some .drain → (∃ l, (s.line l).rxQueue ≠ []) → exec .drainEnd s = .next s)

/-- WAKE_EVENT on a watched line sets WAKE and begins the resume to the origin mode, and is ignored in a resume (R176, R84); that it
acts while the line's own transmitter is sending too is the model's choice (log 28).
RESUME_COMPLETE enters the target mode with the enable event of every enabled line (R81; logs 10 and 11) and completes a REQUEST_MODE for
it (R175). -/
def Obligations.WakeAndResume : Prop :=
  ∀ (l : LineId) (s : State), s.resetHeld = false → s.mode = .standby →
    (∀ m, s.origin = some m → (m = .run ∨ m = .listen) → (s.line l).settings.wake = true → (s.line l).settings.enabled = true →
      s.transition = none → (∀ r, s.slot ≠ .pending (.requestMode r)) →
      exec (.wakeEvent l) s = .next { s with
        conditions := { s.conditions with wake := true }, transition := some .resume, target := m }) ∧
    (s.transition = some .resume → exec (.wakeEvent l) s = .next s) ∧
    (s.origin = some .config → exec (.wakeEvent l) s = .next s) ∧
    (s.transition = some .resume → (s.target = .run ∨ s.target = .listen) →
      ∃ t, exec .resumeComplete s = .next t ∧
        { t with lines := s.lines } = { s with
          origin := none, transition := none, mode := s.target, prescale := 0,
          slot := if s.slot = .pending (.requestMode s.target) then .done .ok [s.target.code] else s.slot } ∧
        ∀ k, ((s.line k).settings.enabled = false → t.line k = s.line k) ∧
          ((s.line k).settings.enabled = true → t.line k = (s.line k).afterEnable (s.target == .run)) ∧
          ((s.line k).settings.enabled = true → (s.line k).drivesBreak = false → (s.line k).isSending = false →
            (t.line k).rx = .waiting))

/-- RESET is taken and waits; SOFT_RESET empties queues and holds, retires learned records, which leaves their slots with no kind and no
key, keeps the others with kind, key and generation, rewrites the stamps of the kept ones but for the FAULTED, zeroes time, counts and
flags, keeps the settings, and leaves CONFIG with the slot IDLE (R178, R17, R23, R88, R128). -/
def Obligations.SoftResetAsOneStep : Prop :=
  ∀ s : State,
    (s.portOpen = true → exec .reset s = .next { s with miso := s.commandOut 0, refused := false, slot := .pending .reset }) ∧
    (s.resetHeld = false → s.slot = .pending .reset →
      ∃ t, exec .softReset s = .next t ∧
        t = { s with
          lines := t.lines, slots := t.slots, sweep := none, sweepOwed := false, transition := none, mode := .config,
          target := .config, origin := none, startup := .complete, notices := [], holds := [], purge := none,
          victim := s.layout.b, tick := 0, prescale := 0, conditions := Conditions.clear,
          arb := { s.arb with run := 0, pointer := 3, sweepWait := 0 }, commitRequested := false, slot := .idle, refused := false } ∧
        (∀ l, t.line l = LineState.withSettings (s.line l).settings) ∧
        ∀ i, (t.slotAt i).gen = (s.slotAt i).gen ∧ (t.slotAt i).held = false ∧ (t.slotAt i).expiredHold = false ∧
          (t.slotAt i).missed = false ∧
          ((s.slotAt i).isLearned = true → t.slotAt i =
            { state := .empty, kind := none, gen := (s.slotAt i).gen, key := none, held := false, expiredHold := false,
              missed := false, body := Body.empty, integrity := .clean }) ∧
          ((s.slotAt i).isLearned = false →
            (t.slotAt i).state = (s.slotAt i).state ∧ (t.slotAt i).kind = (s.slotAt i).kind ∧
            (t.slotAt i).key = (s.slotAt i).key ∧ (t.slotAt i).integrity = (s.slotAt i).integrity) ∧
          ((s.slotAt i).isLearned = false → (s.slotAt i).visible = false → (t.slotAt i).body = (s.slotAt i).body) ∧
          ((s.slotAt i).isLearned = false → (s.slotAt i).visible = true →
            (t.slotAt i).body = { (s.slotAt i).body with
              stamp := 0
              nextDue := if (s.slotAt i).kind = some .exported then (s.slotAt i).body.period.setWidth 32
                         else (s.slotAt i).body.nextDue }))

/-! ## Ticks and the sweep -/

/-- A tick while the counter runs (R116, R120, R121): the counter rises, the pause sets lose the entries that are due, and a sweep
starts, is owed, or SWEEP_OVERRUN is set; in a drain none of these three. That a TICK acts whatever the prescale is, where R116 ties it to
the prescale reaching the tick period, is the model's choice (log 5). -/
def Obligations.TicksStartAndOweSweeps : Prop :=
  ∀ s : State, s.resetHeld = false → (s.mode = .run ∨ s.mode = .listen) →
    ∃ t, exec .tick s = .next t ∧ t.tick = s.tick + 1 ∧ t.prescale = 0 ∧
      (∀ l, t.line l = { s.line l with pauseSet := (s.line l).pauseSet.filter fun e => !dueCome e.2 (s.tick + 1) }) ∧
      (s.transition = some .drain → { t with lines := s.lines, tick := s.tick, prescale := s.prescale } = s) ∧
      (s.transition ≠ some .drain → s.sweep = none →
        { t with lines := s.lines, tick := s.tick, prescale := s.prescale } = { s with
          sweep := some { now := s.tick + 1, pos := 0 }, arb := { s.arb with sweepWait := 0 },
          active := if s.commitRequested then s.staged else s.active, commitRequested := false }) ∧
      (s.transition ≠ some .drain → s.sweep ≠ none → s.sweepOwed = false →
        { t with lines := s.lines, tick := s.tick, prescale := s.prescale } = { s with sweepOwed := true }) ∧
      (s.transition ≠ some .drain → s.sweep ≠ none → s.sweepOwed = true →
        { t with lines := s.lines, tick := s.tick, prescale := s.prescale } = { s with
          conditions := { s.conditions with sweepOverrun := true } })

/-- A granted SWEEP_VISIT (R122 to R125) works on the slot at the position and moves the sweep on; after slot 511 the sweep ends or the owed one
starts. A FAULTED slot, and an EMPTY one, is passed. A single error is corrected and the visit goes on (R54); a double one is repaired in
an EMPTY slot (R57) and makes a record FAULTED (R55). A NEW or FRESH record goes STALE at its limit; a hold at its limit expires (R157);
a STALE learned record that is not held is retired at the learned expiry; an export record that is due is published in RUN (R131), and
its next due advances. Everything else of the state is left as it was. -/
def Obligations.SweepVisitsJudgeTheirSlot : Prop :=
  ∀ (w : Sweep) (s : State), s.resetHeld = false → s.sweep = some w → s.grantNext = some .sweep →
    (((s.slotAt w.pos).state = .faulted ∨ ((s.slotAt w.pos).state = .empty ∧ (s.slotAt w.pos).integrity = .clean)) →
      (w.pos < 511 → exec .sweepVisit s = .next { s with
        sweep := some { now := w.now, pos := w.pos + 1 }, arb := { s.arb with sweepWait := 0 } }) ∧
      (w.pos = 511 → s.sweepOwed = false → exec .sweepVisit s = .next { s with
        sweep := none, arb := { s.arb with sweepWait := 0 } }) ∧
      (w.pos = 511 → s.sweepOwed = true → exec .sweepVisit s = .next { s with
        sweep := some { now := s.tick, pos := 0 }, sweepOwed := false, arb := { s.arb with sweepWait := 0 },
        active := if s.commitRequested then s.staged else s.active, commitRequested := false })) ∧
    ((s.slotAt w.pos).state ≠ .faulted → (s.slotAt w.pos).integrity = .single →
      exec .sweepVisit s = exec .sweepVisit { s.withSlot w.pos { s.slotAt w.pos with integrity := .clean } with
        conditions := { s.conditions with faultCorrected := true },
        capture := captureAfter s.capture
          { corrected := true, slot := w.pos, gen := (s.slotAt w.pos).gen, source := .sweep, tick := s.tick, overwritten := false } }) ∧
    ((s.slotAt w.pos).state = .empty → (s.slotAt w.pos).integrity = .double →
      exec .sweepVisit s = .next (State.sweptPast w
        { s.withSlot w.pos { s.slotAt w.pos with body := Body.empty, integrity := .clean } with
          conditions := { s.conditions with faultUncorrectable := true },
          capture := captureAfter s.capture
            { corrected := false, slot := w.pos, gen := (s.slotAt w.pos).gen, source := .sweep, tick := s.tick, overwritten := false } })) ∧
    ((s.slotAt w.pos).state ≠ .empty → (s.slotAt w.pos).state ≠ .faulted → (s.slotAt w.pos).integrity = .double →
      ∃ t, exec .sweepVisit s = .next t ∧
        { t with
          slots := s.slots, holds := s.holds, lines := s.lines, notices := s.notices, conditions := s.conditions,
          capture := s.capture } = s.sweptPast w ∧
        t.slotAt w.pos = { s.slotAt w.pos with
          state := .faulted, held := false, missed := ((s.post (s.handleAt w.pos) .faulted).slotAt w.pos).missed } ∧
        (∀ j, j ≠ w.pos → t.slotAt j = s.slotAt j) ∧ t.holds = (s.holds.filter fun e => e.slot != w.pos) ∧
        (∀ l, t.line l = (s.line l).dropPublish (s.handleAt w.pos)) ∧
        t.notices = (s.post (s.handleAt w.pos) .faulted).notices ∧
        t.conditions = { (s.post (s.handleAt w.pos) .faulted).conditions with faultUncorrectable := true } ∧
        t.capture = captureAfter s.capture
          { corrected := false, slot := w.pos, gen := (s.slotAt w.pos).gen, source := .sweep, tick := s.tick, overwritten := false }) ∧
    ((s.slotAt w.pos).integrity = .clean → ((s.slotAt w.pos).state = .new ∨ (s.slotAt w.pos).state = .fresh) →
      s.holdOf w.pos = none → (s.slotAt w.pos).kind ≠ some .exported →
      (((s.slotAt w.pos).body.limit = 0 ∨ age (s.slotAt w.pos).body.stamp w.now < (s.slotAt w.pos).body.limit.toNat) →
        exec .sweepVisit s = .next (s.sweptPast w)) ∧
      ((s.slotAt w.pos).body.limit ≠ 0 → (s.slotAt w.pos).body.limit.toNat ≤ age (s.slotAt w.pos).body.stamp w.now →
        exec .sweepVisit s = .next (State.sweptPast w
          ((s.withSlot w.pos { s.slotAt w.pos with state := .stale }).postIf (s.slotAt w.pos).body.edge (s.handleAt w.pos) .stale)))) ∧
    ((s.slotAt w.pos).integrity = .clean → (s.slotAt w.pos).state = .stale → s.holdOf w.pos = none →
      (s.slotAt w.pos).kind ≠ some .exported →
      ((s.slotAt w.pos).kind = some .learned → (s.slotAt w.pos).held = false → s.learnedExpiry ≠ 0 →
        s.learnedExpiry.toNat ≤ age (s.slotAt w.pos).body.stamp w.now →
        ∃ t, exec .sweepVisit s = .next t ∧
          { t with
            slots := s.slots, holds := s.holds, lines := s.lines, notices := s.notices, conditions := s.conditions } = s.sweptPast w ∧
          t.slotAt w.pos =
            { state := .empty, kind := none, gen := (s.slotAt w.pos).gen, key := none, held := false, expiredHold := false,
              missed := ((s.post (s.handleAt w.pos) (.evicted .age)).slotAt w.pos).missed, body := Body.empty, integrity := .clean } ∧
          (∀ j, j ≠ w.pos → t.slotAt j = s.slotAt j) ∧ t.holds = s.holds ∧
          (∀ l, t.line l = (s.line l).dropPublish (s.handleAt w.pos)) ∧
          t.notices = (s.post (s.handleAt w.pos) (.evicted .age)).notices ∧
          t.conditions = (s.post (s.handleAt w.pos) (.evicted .age)).conditions) ∧
      (((s.slotAt w.pos).kind ≠ some .learned ∨ (s.slotAt w.pos).held = true ∨ s.learnedExpiry = 0 ∨
          age (s.slotAt w.pos).body.stamp w.now < s.learnedExpiry.toNat) →
        exec .sweepVisit s = .next (s.sweptPast w))) ∧
    (∀ e, (s.slotAt w.pos).integrity = .clean → (s.slotAt w.pos).state ≠ .empty → (s.slotAt w.pos).state ≠ .faulted →
      ((s.slotAt w.pos).kind ≠ some .exported ∨ (s.slotAt w.pos).body.period = 0 ∨
        dueCome (s.slotAt w.pos).body.nextDue w.now = false) →
      (s.slotAt w.pos).held = true → s.holdOf w.pos = some e →
      (age e.start w.now < e.limit.toNat → exec .sweepVisit s = .next (State.sweptPast w (s.agedInSweep w.now w.pos))) ∧
      (e.limit.toNat ≤ age e.start w.now →
        ∃ t, exec .sweepVisit s = .next t ∧
          { t with slots := s.slots, holds := s.holds, notices := s.notices, conditions := s.conditions } = s.sweptPast w ∧
          t.holds = (s.holds.filter fun x => x.slot != w.pos) ∧ (∀ j, j ≠ w.pos → t.slotAt j = s.slotAt j) ∧
          (e.update = none →
            t.slotAt w.pos = { (s.agedInSweep w.now w.pos).slotAt w.pos with
              held := false, expiredHold := true,
              missed := (((s.agedInSweep w.now w.pos).post (s.handleAt w.pos) .holdExpired).slotAt w.pos).missed } ∧
            t.notices = ((s.agedInSweep w.now w.pos).post (s.handleAt w.pos) .holdExpired).notices ∧
            t.conditions = ((s.agedInSweep w.now w.pos).post (s.handleAt w.pos) .holdExpired).conditions) ∧
          (∀ u, e.update = some u →
            t.slotAt w.pos = { s.slotAt w.pos with
              state := .fresh, held := false, expiredHold := true,
              missed := ((((s.agedInSweep w.now w.pos).updateNotices w.pos u.value).post (s.handleAt w.pos) .holdExpired).slotAt w.pos).missed,
              body := { (s.slotAt w.pos).body with
                value := some u.value, stamp := u.stamp, source := .node u.source, count := sat8 (s.slotAt w.pos).body.count } } ∧
            t.notices = (((s.agedInSweep w.now w.pos).updateNotices w.pos u.value).post (s.handleAt w.pos) .holdExpired).notices ∧
            t.conditions = (((s.agedInSweep w.now w.pos).updateNotices w.pos u.value).post (s.handleAt w.pos) .holdExpired).conditions))) ∧
    ((s.slotAt w.pos).integrity = .clean → (s.slotAt w.pos).state ≠ .empty → (s.slotAt w.pos).state ≠ .faulted →
      (s.slotAt w.pos).kind = some .exported → (∀ e, s.holdOf w.pos = some e → age e.start w.now < e.limit.toNat) →
      (((s.slotAt w.pos).body.period = 0 ∨ dueCome (s.slotAt w.pos).body.nextDue w.now = false) →
        exec .sweepVisit s = .next (State.sweptPast w (s.agedInSweep w.now w.pos))) ∧
      ((s.slotAt w.pos).body.period ≠ 0 → dueCome (s.slotAt w.pos).body.nextDue w.now = true →
        ∃ t, exec .sweepVisit s = .next t ∧
          { t with lines := s.lines } = State.sweptPast w ((s.agedInSweep w.now w.pos).withSlot w.pos
            { (s.agedInSweep w.now w.pos).slotAt w.pos with
              body := { (s.slotAt w.pos).body with nextDue := w.now + (s.slotAt w.pos).body.period.setWidth 32 } }) ∧
          ∀ l, t.line l =
            (if s.mode = .run then s.publishedOn w.pos ((s.agedInSweep w.now w.pos).slotAt w.pos) l else s.line l))) ∧
    (∀ e, (s.slotAt w.pos).integrity = .clean → (s.slotAt w.pos).state ≠ .empty → (s.slotAt w.pos).state ≠ .faulted →
      (s.slotAt w.pos).kind = some .exported → s.holdOf w.pos = some e → e.update = none → e.limit.toNat ≤ age e.start w.now →
      (s.slotAt w.pos).body.period ≠ 0 → dueCome (s.slotAt w.pos).body.nextDue w.now = true →
      ∃ t, exec .sweepVisit s = .next t ∧
        { t with slots := s.slots, holds := s.holds, notices := s.notices, conditions := s.conditions, lines := s.lines } =
          s.sweptPast w ∧
        t.holds = (s.holds.filter fun x => x.slot != w.pos) ∧ (∀ j, j ≠ w.pos → t.slotAt j = s.slotAt j) ∧
        t.slotAt w.pos = { (s.agedInSweep w.now w.pos).slotAt w.pos with
          held := false, expiredHold := true,
          missed := (((s.agedInSweep w.now w.pos).post (s.handleAt w.pos) .holdExpired).slotAt w.pos).missed,
          body := { (s.slotAt w.pos).body with nextDue := w.now + (s.slotAt w.pos).body.period.setWidth 32 } } ∧
        t.notices = ((s.agedInSweep w.now w.pos).post (s.handleAt w.pos) .holdExpired).notices ∧
        t.conditions = ((s.agedInSweep w.now w.pos).post (s.handleAt w.pos) .holdExpired).conditions ∧
        ∀ l, t.line l =
          (if s.mode = .run then s.publishedOn w.pos ((s.agedInSweep w.now w.pos).slotAt w.pos) l else s.line l))

/-! ## Frames -/

/-- A granted line takes its head frame; an UPDATE, QUERY or WITHDRAW that no class matches or whose class is DROP counts FRAMES_TAKEN and
UNCLASSED and does nothing else (R28, R29, R45, R50). The class of a frame is the first enabled one with its line and, under its mask, its
identifier (R27, R28); its key has the line, the identifier, and the first selector-length bits of the payload (R30). At every take, a
count that falls to or below the low mark while the flow state is PAUSED empties an unsent PAUSE or places a RESUME (R69, R70). -/
def Obligations.UnclassedFramesAreDiscarded : Prop :=
  ∀ (l : LineId) (f : RxFrame) (rest : List RxFrame) (s : State), s.resetHeld = false → (s.line l).rxQueue = f :: rest →
    s.grantNext = some (.line l) → (s.line l).restartRequest = false →
    ((∀ n, s.active.classify l f.ident = some n → (s.active.classes.get n).disposition = .drop) →
      ∀ c, ((f.kind = .update ∧ c = .update l) ∨ (f.kind = .query ∧ c = .query l) ∨ (f.kind = .withdraw ∧ c = .withdraw l)) →
        exec c s = .next { s.withLine l { s.lineTaken l rest with
            counters := { (s.line l).counters with
              framesTaken := sat16 (s.line l).counters.framesTaken, unclassed := sat16 (s.line l).counters.unclassed } } with
          arb := (s.grantLine l).arb }) ∧
    (∀ n : Fin 16, s.active.classify l f.ident = some n ↔
      (let fits := fun m : Fin 16 =>
         (s.active.classes.get m).enabled = true ∧ (s.active.classes.get m).lines.getLsbD l.val = true ∧
         ∀ k, (s.active.masks.get (s.active.classes.get m).mask).getLsbD k = true →
           f.ident.getLsbD k = (s.active.classes.get m).compare.getLsbD k
       fits n ∧ ∀ m < n, ¬fits m)) ∧
    (∀ n : Fin 16, let key := frameKey l f (s.active.classes.get n)
      key.line = some l ∧ key.ident = f.ident ∧ key.selLen = (s.active.classes.get n).selLen ∧
      ∀ k, key.selVal.getLsbD k = (decide (k < key.selLen.val) &&
        (f.payload.getD ((key.selLen.val - 1 - k) / 8) 0).getLsbD (7 - (key.selLen.val - 1 - k) % 8))) ∧
    ((s.mode = .run ∧ s.transition = none ∧ (s.line l).settings.flow = true ∧ rest.length ≤ (s.line l).settings.low ∧
        (s.line l).toldPaused) →
      s.lineTaken l rest = { s.line l with
        rxQueue := rest, control := if (s.line l).control = some .pause then none else some .resume }) ∧
    (¬(s.mode = .run ∧ s.transition = none ∧ (s.line l).settings.flow = true ∧ rest.length ≤ (s.line l).settings.low ∧
        (s.line l).toldPaused) →
      s.lineTaken l rest = { s.line l with rxQueue := rest })

/-- An UPDATE from an allowed sender for a clean bound or learned record that is not held is applied: value, stamp, source, count, FRESH
(R94), with the notices RECOVERED and CHANGED that its policies ask for (R95); no other record, and no transmit queue, changes; on a held
one it becomes the pending update (R93). It is REFUSED, and changes no record, with a payload too short for the selector (R31), for no
record under BIND (R96), for an export record (R91), and from a node that is not the owner (R92). The record keeps its key, generation and
kind. A single error in the body read is corrected and the UPDATE goes on (R54, R104); a double one makes the record FAULTED and the
UPDATE REFUSED (R55, R56). -/
def Obligations.UpdatesAreAppliedOrKept : Prop :=
  ∀ (l : LineId) (f : RxFrame) (rest : List RxFrame) (n : Fin 16) (s : State),
    s.resetHeld = false → (s.line l).rxQueue = f :: rest → f.kind = .update → s.grantNext = some (.line l) →
    (s.line l).restartRequest = false → s.active.classify l f.ident = some n → (s.active.classes.get n).disposition ≠ .drop →
    (8 * f.payload.length < (s.active.classes.get n).selLen.val → exec (.update l) s = .next (s.frameRefused l rest)) ∧
    ((s.active.classes.get n).selLen.val ≤ 8 * f.payload.length →
      (s.lookup (frameKey l f (s.active.classes.get n)) = none → (s.active.classes.get n).disposition = .bind →
        exec (.update l) s = .next (s.frameRefused l rest)) ∧
      ∀ i, s.lookup (frameKey l f (s.active.classes.get n)) = some i →
        ((s.slotAt i).kind = some .exported → exec (.update l) s = .next (s.frameRefused l rest)) ∧
        (∀ owner, (s.slotAt i).kind ≠ some .exported → (s.slotAt i).integrity = .clean → (s.slotAt i).body.owner = some owner →
          owner ≠ f.source → exec (.update l) s = .next (s.frameRefused l rest)) ∧
        ((s.slotAt i).kind ≠ some .exported → (s.slotAt i).integrity = .clean →
          ((s.slotAt i).body.owner = none ∨ (s.slotAt i).body.owner = some f.source) →
          ∃ t, exec (.update l) s = .next t ∧ t.arb = (s.grantLine l).arb ∧ (t.line l).rxQueue = rest ∧
            (t.line l).data = (s.line l).data ∧ (t.line l).rx = (s.line l).rx ∧ (t.line l).flight = (s.line l).flight ∧
            (t.line l).counters = { (s.line l).counters with framesTaken := sat16 (s.line l).counters.framesTaken } ∧
            (∀ k, k ≠ l → t.line k = s.line k) ∧ (∀ j, j ≠ i → t.slotAt j = s.slotAt j) ∧ t.slot = s.slot ∧ t.capture = s.capture ∧
            { t with
              slots := s.slots, holds := s.holds, notices := s.notices, conditions := s.conditions } =
              { s.withLine l { s.lineTaken l rest with
                  counters := { (s.line l).counters with framesTaken := sat16 (s.line l).counters.framesTaken } } with
                arb := (s.grantLine l).arb } ∧
            ((s.slotAt i).held = false → t.holds = s.holds ∧
              t.slotAt i = { s.slotAt i with
                state := .fresh, missed := ((s.updateNotices i f.payload).slotAt i).missed,
                body := { (s.slotAt i).body with
                  value := some f.payload, stamp := s.tick, source := .node f.source, count := sat8 (s.slotAt i).body.count } } ∧
              t.notices = (s.updateNotices i f.payload).notices ∧ t.conditions = (s.updateNotices i f.payload).conditions) ∧
            ((s.slotAt i).held = true → t.slots = s.slots ∧ t.notices = s.notices ∧ t.conditions = s.conditions ∧
              t.holds = s.holds.map fun e =>
                if e.slot = i then
                  { e with
                    update := some { value := f.payload, source := f.source, stamp := s.tick },
                    superseded := if e.update.isSome then sat8 e.superseded else e.superseded }
                else e)) ∧
        ((s.slotAt i).kind ≠ some .exported → (s.slotAt i).integrity = .single →
          exec (.update l) s = exec (.update l) (s.corrected (.line l) i)) ∧
        ((s.slotAt i).kind ≠ some .exported → (s.slotAt i).integrity = .double →
          exec (.update l) s = .next ((s.frameRefused l rest).lostRecord (.line l) i)))

/-- A QUERY that finds a clean record changes no record; in RUN with no transition it places a REPLY of its value at the line's reply
priority, or UNANSWERED is counted when the data part is full; in LISTEN nothing more; in a drain from RUN, UNANSWERED (R97, R98). One
that finds no record is UNANSWERED (R98), and one with a payload too short for the selector REFUSED (R31). A single error in the body read
is corrected and the QUERY goes on (R54, R104); a double one makes the record FAULTED and the QUERY REFUSED, not UNANSWERED (R55, R56). -/
def Obligations.QueriesAreAnswered : Prop :=
  ∀ (l : LineId) (f : RxFrame) (rest : List RxFrame) (n : Fin 16) (s : State),
    s.resetHeld = false → (s.line l).rxQueue = f :: rest → f.kind = .query → s.grantNext = some (.line l) →
    (s.line l).restartRequest = false →
    s.active.classify l f.ident = some n → (s.active.classes.get n).disposition ≠ .drop →
    (8 * f.payload.length < (s.active.classes.get n).selLen.val → exec (.query l) s = .next (s.frameRefused l rest)) ∧
    ((s.active.classes.get n).selLen.val ≤ 8 * f.payload.length →
      s.lookup (frameKey l f (s.active.classes.get n)) = none →
      exec (.query l) s = .next { s.withLine l { s.lineTaken l rest with
          counters := { (s.line l).counters with
            framesTaken := sat16 (s.line l).counters.framesTaken, unanswered := sat16 (s.line l).counters.unanswered } } with
        arb := (s.grantLine l).arb }) ∧
    ∀ i, (s.active.classes.get n).selLen.val ≤ 8 * f.payload.length →
    s.lookup (frameKey l f (s.active.classes.get n)) = some i →
    ((s.slotAt i).integrity = .clean → s.mode = .run → s.transition = none → (s.line l).data.length < 8 →
      exec (.query l) s = .next { s.withLine l { s.lineTaken l rest with
          counters := { (s.line l).counters with framesTaken := sat16 (s.line l).counters.framesTaken },
          data := (s.line l).data ++ [{
            item := .reply ((s.slotAt i).state != .fresh) f.ident, priority := (s.line l).settings.replyPriority,
            snapshot := (s.slotAt i).body.value.getD [] }] } with
        arb := (s.grantLine l).arb }) ∧
    ((s.slotAt i).integrity = .clean → s.mode = .run → (s.transition ≠ none ∨ 8 ≤ (s.line l).data.length) →
      exec (.query l) s = .next { s.withLine l { s.lineTaken l rest with
          counters := { (s.line l).counters with
            framesTaken := sat16 (s.line l).counters.framesTaken, unanswered := sat16 (s.line l).counters.unanswered } } with
        arb := (s.grantLine l).arb }) ∧
    ((s.slotAt i).integrity = .clean → s.mode = .listen →
      exec (.query l) s = .next { s.withLine l { s.lineTaken l rest with
          counters := { (s.line l).counters with framesTaken := sat16 (s.line l).counters.framesTaken } } with
        arb := (s.grantLine l).arb }) ∧
    ((s.slotAt i).integrity = .single → exec (.query l) s = exec (.query l) (s.corrected (.line l) i)) ∧
    ((s.slotAt i).integrity = .double →
      exec (.query l) s = .next ((s.frameRefused l rest).lostRecord (.line l) i))

/-- A WITHDRAW from the origin node of a clean learned record that is not held retires it and posts WITHDRAWN (R100, R101); one that finds a
bound, export or held record, or comes from another node, is REFUSED and changes no record; so is one that finds none (R100), or whose
payload is too short for the selector (R31). The retirement has the common effects of R17: the generation and, but for a lost posting,
the missed mark are kept, kind, key, marks and body are cleared, and no hold entry and no PUBLISH entry of the record is left on any
line. A single error in the body read is corrected and the WITHDRAW goes on (R54, R104); a double one makes the record FAULTED and the
WITHDRAW REFUSED (R55, R56). -/
def Obligations.WithdrawalsRetireOrAreRefused : Prop :=
  ∀ (l : LineId) (f : RxFrame) (rest : List RxFrame) (n : Fin 16) (s : State),
    s.resetHeld = false → (s.line l).rxQueue = f :: rest → f.kind = .withdraw → s.grantNext = some (.line l) →
    (s.line l).restartRequest = false →
    s.active.classify l f.ident = some n → (s.active.classes.get n).disposition ≠ .drop →
    (8 * f.payload.length < (s.active.classes.get n).selLen.val → exec (.withdraw l) s = .next (s.frameRefused l rest)) ∧
    ((s.active.classes.get n).selLen.val ≤ 8 * f.payload.length →
      (s.lookup (frameKey l f (s.active.classes.get n)) = none → exec (.withdraw l) s = .next (s.frameRefused l rest)) ∧
      ∀ i, s.lookup (frameKey l f (s.active.classes.get n)) = some i →
        (((s.slotAt i).kind ≠ some .learned ∨ (s.slotAt i).held = true) →
          exec (.withdraw l) s = .next (s.frameRefused l rest)) ∧
        ((s.slotAt i).integrity = .clean → (s.slotAt i).body.originNode ≠ f.source →
          exec (.withdraw l) s = .next (s.frameRefused l rest)) ∧
        ((s.slotAt i).integrity = .clean → (s.slotAt i).kind = some .learned → (s.slotAt i).held = false →
          (s.slotAt i).body.originNode = f.source →
          ∃ t, exec (.withdraw l) s = .next t ∧
            { t with slots := s.slots, holds := s.holds, lines := s.lines, notices := s.notices, conditions := s.conditions } =
              { s with arb := (s.grantLine l).arb } ∧
            t.line l = LineState.dropPublish { slot := i, gen := (s.slotAt i).gen } { s.lineTaken l rest with
              counters := { (s.line l).counters with framesTaken := sat16 (s.line l).counters.framesTaken } } ∧
            (t.line l).rxQueue = rest ∧
            (∀ k, k ≠ l → t.line k = (s.line k).dropPublish { slot := i, gen := (s.slotAt i).gen }) ∧
            t.holds = (s.holds.filter fun e => e.slot != i) ∧
            t.slotAt i =
              { state := .empty, kind := none, gen := (s.slotAt i).gen, key := none, held := false, expiredHold := false,
                missed := ((s.post { slot := i, gen := (s.slotAt i).gen } .withdrawn).slotAt i).missed, body := Body.empty,
                integrity := .clean } ∧
            (∀ j, j ≠ i → t.slotAt j = s.slotAt j) ∧
            t.notices = (s.post { slot := i, gen := (s.slotAt i).gen } .withdrawn).notices ∧
            t.conditions = (s.post { slot := i, gen := (s.slotAt i).gen } .withdrawn).conditions ∧
            (s.notices = [] → t.notices = [{ handle := { slot := i, gen := (s.slotAt i).gen }, kind := .withdrawn, tick := s.tick, waited := 0 }])) ∧
        ((s.slotAt i).kind = some .learned → (s.slotAt i).held = false →
          ((s.slotAt i).integrity = .single → exec (.withdraw l) s = exec (.withdraw l) (s.corrected (.line l) i)) ∧
          ((s.slotAt i).integrity = .double →
            exec (.withdraw l) s = .next ((s.frameRefused l rest).lostRecord (.line l) i))))

/-- An UPDATE under a LEARN class that finds no record is learned in the lowest EMPTY learned slot with the fields of R112, with CREATED
under announce (R107, R113). With no EMPTY learned slot the victim is the first FAULTED or STALE and not held record in the order from the
victim pointer, else the first not held (R109): it is retired with EVICTED, REPLACED, the victim pointer moves to the slot after it
(R108), and the new record takes its slot (R111). With no learned region (R106) or every learned record held (R110), it is REFUSED and
changes no record. -/
def Obligations.LearningFillsTheLowestEmptySlot : Prop :=
  ∀ (l : LineId) (f : RxFrame) (rest : List RxFrame) (n : Fin 16) (s : State),
    s.resetHeld = false → (s.line l).rxQueue = f :: rest → f.kind = .update → s.grantNext = some (.line l) →
    (s.line l).restartRequest = false →
    s.active.classify l f.ident = some n → (s.active.classes.get n).disposition = .learn →
    (s.active.classes.get n).selLen.val ≤ 8 * f.payload.length →
    s.lookup (frameKey l f (s.active.classes.get n)) = none →
    (s.layout.l = 0 → exec (.update l) s = .next (s.frameRefused l rest)) ∧
    (∀ i, s.layout.b ≤ i → i < s.layout.b + s.layout.l → i < 512 →
      (s.slotAt i).state = .empty → (∀ j < i, s.layout.b ≤ j → (s.slotAt j).state ≠ .empty) →
      exec (.update l) s = .next (State.postIf (s.active.classes.get n).announce { slot := i, gen := (s.slotAt i).gen + 1 } .created
        { (s.withLine l { s.lineTaken l rest with
            counters := { (s.line l).counters with framesTaken := sat16 (s.line l).counters.framesTaken } }).withSlot i
            { s.newborn l f n i with missed := (s.slotAt i).missed } with
          arb := (s.grantLine l).arb })) ∧
    (s.layout.l ≠ 0 → s.layout.b + s.layout.l ≤ 512 →
      (∀ i, s.layout.b ≤ i → i < s.layout.b + s.layout.l → (s.slotAt i).state ≠ .empty) →
      ((∀ i, s.layout.b ≤ i → i < s.layout.b + s.layout.l → (s.slotAt i).state ≠ .faulted ∧ (s.slotAt i).held = true) →
        exec (.update l) s = .next (s.frameRefused l rest)) ∧
      ∀ k < s.layout.l,
        (let first := fun i => (s.slotAt i).state = .faulted ∨ ((s.slotAt i).state = .stale ∧ (s.slotAt i).held = false)
         let place := fun j => s.layout.b + (s.victim - s.layout.b + j) % s.layout.l
         (first (place k) ∧ ∀ j < k, ¬first (place j)) ∨
         ((∀ j < s.layout.l, ¬first (place j)) ∧ (s.slotAt (place k)).held = false ∧
           ∀ j < k, (s.slotAt (place j)).held = true)) →
        ∀ v, v = s.layout.b + (s.victim - s.layout.b + k) % s.layout.l →
        ∃ t, exec (.update l) s = .next t ∧ (t.line l).rxQueue = rest ∧
          { t with slots := s.slots, holds := s.holds, lines := s.lines, notices := s.notices, conditions := s.conditions } =
            { s with
              arb := (s.grantLine l).arb, victim := if v + 1 < s.layout.b + s.layout.l then v + 1 else s.layout.b } ∧
          t.line l = LineState.dropPublish (s.handleAt v) { s.lineTaken l rest with
            counters := { (s.line l).counters with framesTaken := sat16 (s.line l).counters.framesTaken } } ∧
          (∀ k, k ≠ l → t.line k = (s.line k).dropPublish (s.handleAt v)) ∧
          (∀ j, j ≠ v → t.slotAt j = s.slotAt j) ∧ t.holds = (s.holds.filter fun e => e.slot != v) ∧
          t.slotAt v = { s.newborn l f n v with missed := ((s.learningNotices v (s.active.classes.get n).announce).slotAt v).missed } ∧
          t.notices = (s.learningNotices v (s.active.classes.get n).announce).notices ∧
          t.conditions = (s.learningNotices v (s.active.classes.get n).announce).conditions)

/-- RESTART_PURGE, granted to a line with a restart request, retires every learned record of that origin line with the effects of R17, each
with EVICTED, LINE_RESTART in slot order, keeps every other record, ends the request and takes no frame (R47). That the line of a learned record's key stands for
its origin line is the model's reading of R4 (log 22, DEDUCED). -/
def Obligations.RestartPurgeClearsALine : Prop :=
  ∀ (l : LineId) (s : State), s.resetHeld = false → (s.line l).restartRequest = true → s.grantNext = some (.line l) →
    ∃ t, exec (.restartPurge l) s = .next t ∧
      { t with slots := s.slots, holds := s.holds, lines := s.lines, notices := s.notices, conditions := s.conditions } =
        { s with arb := (s.grantLine l).arb } ∧
      (∀ i, ((s.slotAt i).learnedFrom l = true → t.slotAt i =
          { state := .empty, kind := none, gen := (s.slotAt i).gen, key := none, held := false, expiredHold := false,
            missed := ((s.evictions (Slot.learnedFrom l) .lineRestart).slotAt i).missed, body := Body.empty, integrity := .clean }) ∧
        ((s.slotAt i).learnedFrom l = false → t.slotAt i = s.slotAt i)) ∧
      t.holds = (s.holds.filter fun e => !(s.slotAt e.slot).learnedFrom l) ∧
      t.line l = { s.lineWithout (Slot.learnedFrom l) l with restartRequest := false } ∧
      (∀ k, k ≠ l → t.line k = s.lineWithout (Slot.learnedFrom l) k) ∧
      (t.line l).restartRequest = false ∧ (t.line l).rxQueue = (s.line l).rxQueue ∧
      (∀ k, (t.line k).counters = (s.line k).counters) ∧
      t.notices = (s.evictions (Slot.learnedFrom l) .lineRestart).notices ∧
      t.conditions = (s.evictions (Slot.learnedFrom l) .lineRestart).conditions ∧
      (s.notices = [] → ((List.range 512).countP fun i => (s.slotAt i).learnedFrom l) ≤ 64 →
        t.conditions = s.conditions ∧ (∀ i, (t.slotAt i).missed = (s.slotAt i).missed) ∧
        t.notices = ((List.range 512).filter fun i => (s.slotAt i).learnedFrom l).map fun i =>
          { handle := s.handleAt i, kind := .evicted .lineRestart, tick := s.tick, waited := 0 })

/-- NOTICE_HOLD_OFF_EXPIRY asserts NOTICE_N for a queue that is not empty and changes the waits alone (R165; the waits are the model's, log 5);
PAUSE_DEADLINE_EXPIRY removes the entries that are due from one line's pause set (R71). -/
def Obligations.WaitsThatEnd : Prop :=
  ∀ (l : LineId) (s : State), s.resetHeld = false →
    (s.notices ≠ [] → ∃ t, exec .noticeHoldOffExpiry s = .next t ∧ t.noticeN = true ∧ { t with notices := s.notices } = s ∧
      t.notices.map (fun e => (e.handle, e.kind, e.tick)) = s.notices.map (fun e => (e.handle, e.kind, e.tick))) ∧
    exec (.pauseDeadlineExpiry l) s = .next (s.withLine l
      { s.line l with pauseSet := (s.line l).pauseSet.filter fun e => !dueCome e.2 s.tick })

/-! ## Lines -/

/-- A byte goes over a line as a start bit, its bits from the least significant, an even parity bit and a stop bit (R62). The receiver on a
line that is not sending (R63 to R66) gathers such characters, judges the whole frame, counts bad, truncated and overlong frames, character
errors (R62) and breaks once, and moves between its states; no other line and no record changes. That a character time low throughout is
the break is the model's reading of R62 and R66 (log 26, DEDUCED). -/
def Obligations.ReceiversGatherAndJudge : Prop :=
  (∀ c : Byte, (wireChar c).getLsbD 0 = false ∧ (∀ k < 8, (wireChar c).getLsbD (k + 1) = c.getLsbD k) ∧
    ((List.range 9).countP fun k => (wireChar c).getLsbD (k + 1)) % 2 = 0 ∧ (wireChar c).getLsbD 10 = true) ∧
  ∀ (l : LineId) (c : Byte) (s : State), s.resetHeld = false → (s.line l).isSending = false →
    ((s.line l).rx = .waiting ∨ (s.line l).rx = .discarding ∨ (s.line l).rx = .stopped →
      exec (.characterReceived l (wireChar c)) s = .next s) ∧
    ((s.line l).rx = .ready →
      exec (.characterReceived l (wireChar c)) s = .next (s.withLine l { s.line l with rx := .assembling [c] })) ∧
    (∀ chars, (s.line l).rx = .assembling chars → badLength (chars ++ [c]) = false → isWhole (chars ++ [c]) = false →
      exec (.characterReceived l (wireChar c)) s = .next (s.withLine l { s.line l with rx := .assembling (chars ++ [c]) })) ∧
    (∀ chars f, (s.line l).rx = .assembling chars → badLength (chars ++ [c]) = false → isWhole (chars ++ [c]) = true →
      judgeFrame (s.line l).settings.node (chars ++ [c]) = some f →
      exec (.characterReceived l (wireChar c)) s = .next (s.withLine l { s.line l with rx := .complete f })) ∧
    (∀ w : WireChar, w.getLsbD 0 = false → w ≠ 0 →
      (w.getLsbD 10 = false ∨ ((List.range 9).countP fun k => w.getLsbD (k + 1)) % 2 = 1) →
      ((s.line l).rx = .ready ∨ (∃ chars, (s.line l).rx = .assembling chars) ∨ (∃ f, (s.line l).rx = .complete f) →
        exec (.characterReceived l w) s = .next (s.withLine l { s.line l with
          rx := .discarding, counters := { (s.line l).counters with badFrame := sat16 (s.line l).counters.badFrame } })) ∧
      ((s.line l).rx = .waiting ∨ (s.line l).rx = .discarding ∨ (s.line l).rx = .stopped →
        exec (.characterReceived l w) s = .next s) ∧
      exec (.badFrame l w) s = exec (.characterReceived l w) s) ∧
    exec (.characterReceived l 0) s = exec (.lineBreak l) s ∧
    (∀ chars, (s.line l).rx = .assembling chars →
      exec (.truncatedFrame l) s = .next (s.withLine l { s.line l with
        rx := .ready, counters := { (s.line l).counters with badFrame := sat16 (s.line l).counters.badFrame } }) ∧
      (judgedBad (s.line l).settings.node (chars ++ [c]) = true →
        exec (.badFrame l (wireChar c)) s = .next (s.withLine l { s.line l with
          rx := .discarding, counters := { (s.line l).counters with badFrame := sat16 (s.line l).counters.badFrame } }) ∧
        exec (.characterReceived l (wireChar c)) s = exec (.badFrame l (wireChar c)) s)) ∧
    (∀ f, (s.line l).rx = .complete f →
      exec (.overlongFrame l) s = .next (s.withLine l { s.line l with
        rx := .discarding, counters := { (s.line l).counters with badFrame := sat16 (s.line l).counters.badFrame } }) ∧
      exec (.characterReceived l (wireChar c)) s = exec (.overlongFrame l) s) ∧
    ((s.line l).rx ≠ .stopped → (s.line l).rx ≠ .echo →
      exec (.lineBreak l) s = .next (s.withLine l { s.line l with
        rx := .waiting, counters := { (s.line l).counters with badFrame := sat16 (s.line l).counters.badFrame } })) ∧
    ((s.line l).rx = .waiting ∨ (s.line l).rx = .discarding →
      exec (.receiverIdleGap l) s = .next (s.withLine l { s.line l with rx := .ready }))

/-- Delivery of a complete frame (R65, R68, R71): a data frame joins a queue with room, or is dropped with OVERRUN and LINE_OVERRUN; a PAUSE joins
or renews its node's deadline; a RESUME removes its node; the receiver goes to READY. A join that brings the count to or above the high
mark while the flow state is FLOWING empties an unsent RESUME or places a PAUSE, in RUN with flow control on; otherwise the control entry
is left alone (R69, R70). -/
def Obligations.CompleteFramesAreDelivered : Prop :=
  ∀ (l : LineId) (f : RxFrame) (s : State), s.resetHeld = false → (s.line l).rx = .complete f →
    ((f.kind = .update ∨ f.kind = .query ∨ f.kind = .withdraw) → (s.line l).rxQueue.length < 8 →
      exec (.dataFrameDelivery l) s = .next (s.withLine l
        { LineState.flowOnJoin s.flowActs { s.line l with rxQueue := (s.line l).rxQueue ++ [f] } with rx := .ready }) ∧
      ((s.mode = .run ∧ s.transition = none ∧ (s.line l).settings.flow = true ∧
          (s.line l).settings.high ≤ (s.line l).rxQueue.length + 1 ∧ ¬(s.line l).toldPaused) →
        exec (.dataFrameDelivery l) s = .next (s.withLine l { s.line l with
          rxQueue := (s.line l).rxQueue ++ [f], rx := .ready,
          control := if (s.line l).control = some .resume then none else some .pause })) ∧
      (¬(s.mode = .run ∧ s.transition = none ∧ (s.line l).settings.flow = true ∧
          (s.line l).settings.high ≤ (s.line l).rxQueue.length + 1 ∧ ¬(s.line l).toldPaused) →
        exec (.dataFrameDelivery l) s = .next (s.withLine l { s.line l with rxQueue := (s.line l).rxQueue ++ [f], rx := .ready }))) ∧
    ((f.kind = .update ∨ f.kind = .query ∨ f.kind = .withdraw) → 8 ≤ (s.line l).rxQueue.length →
      exec (.dataFrameDelivery l) s = .next
        { s.withLine l { s.line l with
            rx := .ready, counters := { (s.line l).counters with overrun := sat16 (s.line l).counters.overrun } } with
          conditions := { s.conditions with lineOverrun := true } }) ∧
    (f.kind = .pause → ∃ t, exec (.pause l) s = .next t ∧ (t.line l).rx = .ready ∧
      { t with lines := s.lines } = s ∧ (∀ k, k ≠ l → t.line k = s.line k) ∧
      { t.line l with rx := (s.line l).rx, pauseSet := (s.line l).pauseSet } = s.line l ∧
      (∀ e ∈ (t.line l).pauseSet, e.1 = f.source → e.2 = s.tick + (s.line l).settings.timeout.setWidth 32) ∧
      (∃ e ∈ (t.line l).pauseSet, e.1 = f.source) ∧
      (∀ e, e.1 ≠ f.source → (e ∈ (t.line l).pauseSet ↔ e ∈ (s.line l).pauseSet))) ∧
    (f.kind = .resume → exec (.resume l) s = .next (s.withLine l
      { s.line l with rx := .ready, pauseSet := (s.line l).pauseSet.filter fun e => e.1 != f.source }))

/-- The transmitter (R73 to R76, R130): a start takes the control entry, or with no node pausing the first data entry in the send order; each
character heard is compared with the one sent, parity and stop bit included, the last one ends the frame and another one is a collision
(R74, R75); a frame sent moves the outstanding mark while the mode is RUN with no transition in flight at its completion (R69; also after
RUN was left and entered again, the model's reading, log 27); a collision backs off, and the fourth drops the frame, after whose loss the flow
control acts again on the queue's count (R70); a retry sends it again. The model's choices: FRAME_SENT and COLLISION act whatever part of
the echo has been compared (log 18); a start needs no idle time beyond READY (log 7); a retry on an active line needs READY (log 20). -/
def Obligations.TransmittersSendAndBackOff : Prop :=
  ∀ (l : LineId) (s : State), s.resetHeld = false →
    (∀ c, s.mayStart l = true → (s.line l).control = some c →
      exec (.frameStart l) s = .next (s.withLine l { s.line l with
        control := none, rx := .echo,
        flight := some { item := .control c, bytes := controlBytes (s.line l).settings.node c, collisions := 0, sending := true, echoed := 0 } })) ∧
    (∀ e, s.mayStart l = true → (s.line l).control = none → (s.line l).pauseSet = [] → e ∈ (s.line l).data →
      (∀ x ∈ (s.line l).data, x.priority ≤ e.priority) → (s.line l).data.find? (fun x => x.priority == e.priority) = some e →
      exec (.frameStart l) s = .next (s.withLine l { s.line l with
        data := (s.line l).data.erase e, rx := .echo,
        flight := some { item := .data e.item, bytes := s.dataBytes (s.line l).settings.node e, collisions := 0, sending := true, echoed := 0 } })) ∧
    (∀ f, (s.line l).flight = some f → f.sending = true → (s.line l).hold = .off →
      (∀ d, f.item = .data d → exec (.frameSent l) s = .next (s.withLine l { s.line l with
        flight := none, rx := if s.lineActive l then .waiting else (s.line l).rx })) ∧
      (∀ c, f.item = .control c → exec (.frameSent l) s = .next (s.withLine l { s.line l with
        flight := none, rx := if s.lineActive l then .waiting else (s.line l).rx,
        outstanding := if s.flowActs then c == Control.pause else (s.line l).outstanding })) ∧
      (f.collisions < 3 → exec (.collision l) s = .next (s.withLine l { s.line l with
        rx := if s.lineActive l then .waiting else (s.line l).rx,
        counters := { (s.line l).counters with collisions := sat16 (s.line l).counters.collisions },
        flight := some { f with collisions := f.collisions + 1, sending := false, echoed := 0 } })) ∧
      (f.collisions = 3 → (∀ h, f.item = .data (.publish h) → exec (.collision l) s = .next
        { s.withLine l { s.line l with
            rx := if s.lineActive l then .waiting else (s.line l).rx,
            counters := { (s.line l).counters with
              collisions := sat16 (s.line l).counters.collisions, skipped := sat16 (s.line l).counters.skipped },
            flight := none } with
          conditions := { s.conditions with lineCollision := true } }) ∧
        (∀ stale ident, f.item = .data (.reply stale ident) → exec (.collision l) s = .next
        { s.withLine l { s.line l with
            rx := if s.lineActive l then .waiting else (s.line l).rx,
            counters := { (s.line l).counters with
              collisions := sat16 (s.line l).counters.collisions, unanswered := sat16 (s.line l).counters.unanswered },
            flight := none } with
          conditions := { s.conditions with lineCollision := true } }) ∧
        (∀ c, f.item = .control c → exec (.collision l) s = .next
        { s.withLine l (LineState.flowAgain s.flowActs { s.line l with
            rx := if s.lineActive l then .waiting else (s.line l).rx,
            counters := { (s.line l).counters with collisions := sat16 (s.line l).counters.collisions },
            flight := none }) with
          conditions := { s.conditions with lineCollision := true } }))) ∧
    (∀ f, (s.line l).flight = some f → f.sending = true →
      (∀ c, f.bytes[f.echoed]? = some c → f.echoed + 1 < f.bytes.length →
        exec (.characterReceived l (wireChar c)) s = .next (s.withLine l
          { s.line l with flight := some { f with echoed := f.echoed + 1 } })) ∧
      (∀ c, f.bytes[f.echoed]? = some c → f.echoed + 1 = f.bytes.length →
        exec (.characterReceived l (wireChar c)) s = exec (.frameSent l) s) ∧
      (∀ w, (∀ c, f.bytes[f.echoed]? = some c → w ≠ wireChar c) →
        exec (.characterReceived l w) s = exec (.collision l) s)) ∧
    (∀ ln : LineState,
      (ln.settings.flow = true → ln.settings.high ≤ ln.rxQueue.length → ¬ln.toldPaused →
        LineState.flowAgain true ln = { ln with control := if ln.control = some .resume then none else some .pause }) ∧
      (ln.settings.flow = true → ln.rxQueue.length < ln.settings.high → ln.rxQueue.length ≤ ln.settings.low → ln.toldPaused →
        LineState.flowAgain true ln = { ln with control := if ln.control = some .pause then none else some .resume }) ∧
      ((ln.settings.high ≤ ln.rxQueue.length ∧ ln.toldPaused) ∨
        (ln.rxQueue.length < ln.settings.high ∧ (ln.settings.low < ln.rxQueue.length ∨ ¬ln.toldPaused)) →
        LineState.flowAgain true ln = ln) ∧
      (ln.settings.flow = false → LineState.flowAgain true ln = ln) ∧ LineState.flowAgain false ln = ln) ∧
    (∀ f d r x, (s.line l).flight = some f → f.sending = true → (s.line l).hold = .waiting d r → f.item = .data x →
      exec (.frameSent l) s = .next (s.withLine l { s.line l with
        flight := none, hold := .breaking d r, rx := .stopped, pauseSet := [] })) ∧
    (∀ f, (s.line l).flight = some f → f.sending = false → (s.lineActive l = false ∨ (s.line l).rx = .ready) →
      exec (.backoffRetry l) s = .next (s.withLine l { s.line l with
        flight := some { f with sending := true, echoed := 0 },
        rx := if s.lineActive l then .echo else (s.line l).rx }))

/-! ## Headlines -/

/-- The bytes of a host's transaction stand for the command they were made from, with every argument at every value its bytes can hold,
and their count fits their type (R181, R182). -/
def Obligations.TransactionsStandForTheirCommands : Prop :=
  ∀ (c : Instr) (bytes : List Byte), c.wellFormed = true → encodeTransaction c = some bytes →
    readTransaction bytes = some c ∧ fitsType bytes = true

/-- No two visible records ever have overlapping keys: every step keeps it (R13). -/
def Obligations.EveryStepKeepsKeysApart : Prop := keptByEveryStep keysNeverOverlap

/-- Every step keeps the notice queue within 64 entries with one for a handle, and every line's queues within their bounds (R159, R68, R129). -/
def Obligations.EveryStepKeepsTheQueuesBounded : Prop := keptByEveryStep noticesBounded ∧ keptByEveryStep queuesBounded

/-- Every step keeps the arbiter's shares and counters in their ranges (R48, R50), and the layout over the whole table (R14). -/
def Obligations.EveryStepKeepsTheArbiterInRange : Prop := keptByEveryStep arbiterInRange ∧ keptByEveryStep layoutCovers

/-- Every step keeps the hold list and the held marks in agreement (R154), and a value in every FRESH record and none in a NEW one (R7). -/
def Obligations.EveryStepKeepsHoldsAndValues : Prop := keptByEveryStep holdsAgree ∧ keptByEveryStep valuesAgree

/-- Every step keeps the registers of the mode controller in agreement (R171). -/
def Obligations.EveryStepKeepsTheModesInAgreement : Prop := keptByEveryStep modesAgree
end

