-- ==== Sys2Proof/Laws/State.lean ====
section
/-! SUPPORT. One lemma per field per update of the state, and what a slot or a line reads after an update. -/

namespace Sys2Proof.Machine

@[simp] theorem State.setSlot_resetHeld (i : Nat) (x : Slot) (s : State) : (s.setSlot i x).resetHeld = s.resetHeld := rfl
@[simp] theorem State.setSlot_mode (i : Nat) (x : Slot) (s : State) : (s.setSlot i x).mode = s.mode := rfl
@[simp] theorem State.setSlot_target (i : Nat) (x : Slot) (s : State) : (s.setSlot i x).target = s.target := rfl
@[simp] theorem State.setSlot_origin (i : Nat) (x : Slot) (s : State) : (s.setSlot i x).origin = s.origin := rfl
@[simp] theorem State.setSlot_transition (i : Nat) (x : Slot) (s : State) : (s.setSlot i x).transition = s.transition := rfl
@[simp] theorem State.setSlot_startup (i : Nat) (x : Slot) (s : State) : (s.setSlot i x).startup = s.startup := rfl
@[simp] theorem State.setSlot_layout (i : Nat) (x : Slot) (s : State) : (s.setSlot i x).layout = s.layout := rfl
@[simp] theorem State.setSlot_victim (i : Nat) (x : Slot) (s : State) : (s.setSlot i x).victim = s.victim := rfl
@[simp] theorem State.setSlot_active (i : Nat) (x : Slot) (s : State) : (s.setSlot i x).active = s.active := rfl
@[simp] theorem State.setSlot_staged (i : Nat) (x : Slot) (s : State) : (s.setSlot i x).staged = s.staged := rfl
@[simp] theorem State.setSlot_commitRequested (i : Nat) (x : Slot) (s : State) : (s.setSlot i x).commitRequested = s.commitRequested := rfl
@[simp] theorem State.setSlot_holds (i : Nat) (x : Slot) (s : State) : (s.setSlot i x).holds = s.holds := rfl
@[simp] theorem State.setSlot_sweep (i : Nat) (x : Slot) (s : State) : (s.setSlot i x).sweep = s.sweep := rfl
@[simp] theorem State.setSlot_sweepOwed (i : Nat) (x : Slot) (s : State) : (s.setSlot i x).sweepOwed = s.sweepOwed := rfl
@[simp] theorem State.setSlot_purge (i : Nat) (x : Slot) (s : State) : (s.setSlot i x).purge = s.purge := rfl
@[simp] theorem State.setSlot_arb (i : Nat) (x : Slot) (s : State) : (s.setSlot i x).arb = s.arb := rfl
@[simp] theorem State.setSlot_lines (i : Nat) (x : Slot) (s : State) : (s.setSlot i x).lines = s.lines := rfl
@[simp] theorem State.setSlot_tick (i : Nat) (x : Slot) (s : State) : (s.setSlot i x).tick = s.tick := rfl
@[simp] theorem State.setSlot_prescale (i : Nat) (x : Slot) (s : State) : (s.setSlot i x).prescale = s.prescale := rfl
@[simp] theorem State.setSlot_tickPeriod (i : Nat) (x : Slot) (s : State) : (s.setSlot i x).tickPeriod = s.tickPeriod := rfl
@[simp] theorem State.setSlot_learnedExpiry (i : Nat) (x : Slot) (s : State) : (s.setSlot i x).learnedExpiry = s.learnedExpiry := rfl
@[simp] theorem State.setSlot_notices (i : Nat) (x : Slot) (s : State) : (s.setSlot i x).notices = s.notices := rfl
@[simp] theorem State.setSlot_threshold (i : Nat) (x : Slot) (s : State) : (s.setSlot i x).threshold = s.threshold := rfl
@[simp] theorem State.setSlot_holdOff (i : Nat) (x : Slot) (s : State) : (s.setSlot i x).holdOff = s.holdOff := rfl
@[simp] theorem State.setSlot_conditions (i : Nat) (x : Slot) (s : State) : (s.setSlot i x).conditions = s.conditions := rfl
@[simp] theorem State.setSlot_routes (i : Nat) (x : Slot) (s : State) : (s.setSlot i x).routes = s.routes := rfl
@[simp] theorem State.setSlot_capture (i : Nat) (x : Slot) (s : State) : (s.setSlot i x).capture = s.capture := rfl
@[simp] theorem State.setSlot_slot (i : Nat) (x : Slot) (s : State) : (s.setSlot i x).slot = s.slot := rfl
@[simp] theorem State.setSlot_refused (i : Nat) (x : Slot) (s : State) : (s.setSlot i x).refused = s.refused := rfl
@[simp] theorem State.setSlot_miso (i : Nat) (x : Slot) (s : State) : (s.setSlot i x).miso = s.miso := rfl
@[simp] theorem State.setSlot_freeCount (i : Nat) (x : Slot) (s : State) : (s.setSlot i x).freeCount = s.freeCount := rfl
@[simp] theorem State.setSlot_pending (i : Nat) (x : Slot) (s : State) : (s.setSlot i x).pending = s.pending := rfl

@[simp] theorem State.modifySlot_resetHeld (i : Nat) (f : Slot → Slot) (s : State) : (s.modifySlot i f).resetHeld = s.resetHeld := rfl
@[simp] theorem State.modifySlot_mode (i : Nat) (f : Slot → Slot) (s : State) : (s.modifySlot i f).mode = s.mode := rfl
@[simp] theorem State.modifySlot_target (i : Nat) (f : Slot → Slot) (s : State) : (s.modifySlot i f).target = s.target := rfl
@[simp] theorem State.modifySlot_origin (i : Nat) (f : Slot → Slot) (s : State) : (s.modifySlot i f).origin = s.origin := rfl
@[simp] theorem State.modifySlot_transition (i : Nat) (f : Slot → Slot) (s : State) : (s.modifySlot i f).transition = s.transition := rfl
@[simp] theorem State.modifySlot_startup (i : Nat) (f : Slot → Slot) (s : State) : (s.modifySlot i f).startup = s.startup := rfl
@[simp] theorem State.modifySlot_layout (i : Nat) (f : Slot → Slot) (s : State) : (s.modifySlot i f).layout = s.layout := rfl
@[simp] theorem State.modifySlot_victim (i : Nat) (f : Slot → Slot) (s : State) : (s.modifySlot i f).victim = s.victim := rfl
@[simp] theorem State.modifySlot_active (i : Nat) (f : Slot → Slot) (s : State) : (s.modifySlot i f).active = s.active := rfl
@[simp] theorem State.modifySlot_staged (i : Nat) (f : Slot → Slot) (s : State) : (s.modifySlot i f).staged = s.staged := rfl
@[simp] theorem State.modifySlot_commitRequested (i : Nat) (f : Slot → Slot) (s : State) : (s.modifySlot i f).commitRequested = s.commitRequested := rfl
@[simp] theorem State.modifySlot_holds (i : Nat) (f : Slot → Slot) (s : State) : (s.modifySlot i f).holds = s.holds := rfl
@[simp] theorem State.modifySlot_sweep (i : Nat) (f : Slot → Slot) (s : State) : (s.modifySlot i f).sweep = s.sweep := rfl
@[simp] theorem State.modifySlot_sweepOwed (i : Nat) (f : Slot → Slot) (s : State) : (s.modifySlot i f).sweepOwed = s.sweepOwed := rfl
@[simp] theorem State.modifySlot_purge (i : Nat) (f : Slot → Slot) (s : State) : (s.modifySlot i f).purge = s.purge := rfl
@[simp] theorem State.modifySlot_arb (i : Nat) (f : Slot → Slot) (s : State) : (s.modifySlot i f).arb = s.arb := rfl
@[simp] theorem State.modifySlot_lines (i : Nat) (f : Slot → Slot) (s : State) : (s.modifySlot i f).lines = s.lines := rfl
@[simp] theorem State.modifySlot_tick (i : Nat) (f : Slot → Slot) (s : State) : (s.modifySlot i f).tick = s.tick := rfl
@[simp] theorem State.modifySlot_prescale (i : Nat) (f : Slot → Slot) (s : State) : (s.modifySlot i f).prescale = s.prescale := rfl
@[simp] theorem State.modifySlot_tickPeriod (i : Nat) (f : Slot → Slot) (s : State) : (s.modifySlot i f).tickPeriod = s.tickPeriod := rfl
@[simp] theorem State.modifySlot_learnedExpiry (i : Nat) (f : Slot → Slot) (s : State) : (s.modifySlot i f).learnedExpiry = s.learnedExpiry := rfl
@[simp] theorem State.modifySlot_notices (i : Nat) (f : Slot → Slot) (s : State) : (s.modifySlot i f).notices = s.notices := rfl
@[simp] theorem State.modifySlot_threshold (i : Nat) (f : Slot → Slot) (s : State) : (s.modifySlot i f).threshold = s.threshold := rfl
@[simp] theorem State.modifySlot_holdOff (i : Nat) (f : Slot → Slot) (s : State) : (s.modifySlot i f).holdOff = s.holdOff := rfl
@[simp] theorem State.modifySlot_conditions (i : Nat) (f : Slot → Slot) (s : State) : (s.modifySlot i f).conditions = s.conditions := rfl
@[simp] theorem State.modifySlot_routes (i : Nat) (f : Slot → Slot) (s : State) : (s.modifySlot i f).routes = s.routes := rfl
@[simp] theorem State.modifySlot_capture (i : Nat) (f : Slot → Slot) (s : State) : (s.modifySlot i f).capture = s.capture := rfl
@[simp] theorem State.modifySlot_slot (i : Nat) (f : Slot → Slot) (s : State) : (s.modifySlot i f).slot = s.slot := rfl
@[simp] theorem State.modifySlot_refused (i : Nat) (f : Slot → Slot) (s : State) : (s.modifySlot i f).refused = s.refused := rfl
@[simp] theorem State.modifySlot_miso (i : Nat) (f : Slot → Slot) (s : State) : (s.modifySlot i f).miso = s.miso := rfl
@[simp] theorem State.modifySlot_freeCount (i : Nat) (f : Slot → Slot) (s : State) : (s.modifySlot i f).freeCount = s.freeCount := rfl
@[simp] theorem State.modifySlot_pending (i : Nat) (f : Slot → Slot) (s : State) : (s.modifySlot i f).pending = s.pending := rfl

@[simp] theorem State.mapSlots_resetHeld (f : Slot → Slot) (s : State) : (s.mapSlots f).resetHeld = s.resetHeld := rfl
@[simp] theorem State.mapSlots_mode (f : Slot → Slot) (s : State) : (s.mapSlots f).mode = s.mode := rfl
@[simp] theorem State.mapSlots_target (f : Slot → Slot) (s : State) : (s.mapSlots f).target = s.target := rfl
@[simp] theorem State.mapSlots_origin (f : Slot → Slot) (s : State) : (s.mapSlots f).origin = s.origin := rfl
@[simp] theorem State.mapSlots_transition (f : Slot → Slot) (s : State) : (s.mapSlots f).transition = s.transition := rfl
@[simp] theorem State.mapSlots_startup (f : Slot → Slot) (s : State) : (s.mapSlots f).startup = s.startup := rfl
@[simp] theorem State.mapSlots_layout (f : Slot → Slot) (s : State) : (s.mapSlots f).layout = s.layout := rfl
@[simp] theorem State.mapSlots_victim (f : Slot → Slot) (s : State) : (s.mapSlots f).victim = s.victim := rfl
@[simp] theorem State.mapSlots_active (f : Slot → Slot) (s : State) : (s.mapSlots f).active = s.active := rfl
@[simp] theorem State.mapSlots_staged (f : Slot → Slot) (s : State) : (s.mapSlots f).staged = s.staged := rfl
@[simp] theorem State.mapSlots_commitRequested (f : Slot → Slot) (s : State) : (s.mapSlots f).commitRequested = s.commitRequested := rfl
@[simp] theorem State.mapSlots_holds (f : Slot → Slot) (s : State) : (s.mapSlots f).holds = s.holds := rfl
@[simp] theorem State.mapSlots_sweep (f : Slot → Slot) (s : State) : (s.mapSlots f).sweep = s.sweep := rfl
@[simp] theorem State.mapSlots_sweepOwed (f : Slot → Slot) (s : State) : (s.mapSlots f).sweepOwed = s.sweepOwed := rfl
@[simp] theorem State.mapSlots_purge (f : Slot → Slot) (s : State) : (s.mapSlots f).purge = s.purge := rfl
@[simp] theorem State.mapSlots_arb (f : Slot → Slot) (s : State) : (s.mapSlots f).arb = s.arb := rfl
@[simp] theorem State.mapSlots_lines (f : Slot → Slot) (s : State) : (s.mapSlots f).lines = s.lines := rfl
@[simp] theorem State.mapSlots_tick (f : Slot → Slot) (s : State) : (s.mapSlots f).tick = s.tick := rfl
@[simp] theorem State.mapSlots_prescale (f : Slot → Slot) (s : State) : (s.mapSlots f).prescale = s.prescale := rfl
@[simp] theorem State.mapSlots_tickPeriod (f : Slot → Slot) (s : State) : (s.mapSlots f).tickPeriod = s.tickPeriod := rfl
@[simp] theorem State.mapSlots_learnedExpiry (f : Slot → Slot) (s : State) : (s.mapSlots f).learnedExpiry = s.learnedExpiry := rfl
@[simp] theorem State.mapSlots_notices (f : Slot → Slot) (s : State) : (s.mapSlots f).notices = s.notices := rfl
@[simp] theorem State.mapSlots_threshold (f : Slot → Slot) (s : State) : (s.mapSlots f).threshold = s.threshold := rfl
@[simp] theorem State.mapSlots_holdOff (f : Slot → Slot) (s : State) : (s.mapSlots f).holdOff = s.holdOff := rfl
@[simp] theorem State.mapSlots_conditions (f : Slot → Slot) (s : State) : (s.mapSlots f).conditions = s.conditions := rfl
@[simp] theorem State.mapSlots_routes (f : Slot → Slot) (s : State) : (s.mapSlots f).routes = s.routes := rfl
@[simp] theorem State.mapSlots_capture (f : Slot → Slot) (s : State) : (s.mapSlots f).capture = s.capture := rfl
@[simp] theorem State.mapSlots_slot (f : Slot → Slot) (s : State) : (s.mapSlots f).slot = s.slot := rfl
@[simp] theorem State.mapSlots_refused (f : Slot → Slot) (s : State) : (s.mapSlots f).refused = s.refused := rfl
@[simp] theorem State.mapSlots_miso (f : Slot → Slot) (s : State) : (s.mapSlots f).miso = s.miso := rfl
@[simp] theorem State.mapSlots_freeCount (f : Slot → Slot) (s : State) : (s.mapSlots f).freeCount = s.freeCount := rfl
@[simp] theorem State.mapSlots_pending (f : Slot → Slot) (s : State) : (s.mapSlots f).pending = s.pending := rfl

@[simp] theorem State.setLine_resetHeld (l : LineId) (x : LineState) (s : State) : (s.setLine l x).resetHeld = s.resetHeld := rfl
@[simp] theorem State.setLine_mode (l : LineId) (x : LineState) (s : State) : (s.setLine l x).mode = s.mode := rfl
@[simp] theorem State.setLine_target (l : LineId) (x : LineState) (s : State) : (s.setLine l x).target = s.target := rfl
@[simp] theorem State.setLine_origin (l : LineId) (x : LineState) (s : State) : (s.setLine l x).origin = s.origin := rfl
@[simp] theorem State.setLine_transition (l : LineId) (x : LineState) (s : State) : (s.setLine l x).transition = s.transition := rfl
@[simp] theorem State.setLine_startup (l : LineId) (x : LineState) (s : State) : (s.setLine l x).startup = s.startup := rfl
@[simp] theorem State.setLine_slots (l : LineId) (x : LineState) (s : State) : (s.setLine l x).slots = s.slots := rfl
@[simp] theorem State.setLine_layout (l : LineId) (x : LineState) (s : State) : (s.setLine l x).layout = s.layout := rfl
@[simp] theorem State.setLine_victim (l : LineId) (x : LineState) (s : State) : (s.setLine l x).victim = s.victim := rfl
@[simp] theorem State.setLine_active (l : LineId) (x : LineState) (s : State) : (s.setLine l x).active = s.active := rfl
@[simp] theorem State.setLine_staged (l : LineId) (x : LineState) (s : State) : (s.setLine l x).staged = s.staged := rfl
@[simp] theorem State.setLine_commitRequested (l : LineId) (x : LineState) (s : State) : (s.setLine l x).commitRequested = s.commitRequested := rfl
@[simp] theorem State.setLine_holds (l : LineId) (x : LineState) (s : State) : (s.setLine l x).holds = s.holds := rfl
@[simp] theorem State.setLine_sweep (l : LineId) (x : LineState) (s : State) : (s.setLine l x).sweep = s.sweep := rfl
@[simp] theorem State.setLine_sweepOwed (l : LineId) (x : LineState) (s : State) : (s.setLine l x).sweepOwed = s.sweepOwed := rfl
@[simp] theorem State.setLine_purge (l : LineId) (x : LineState) (s : State) : (s.setLine l x).purge = s.purge := rfl
@[simp] theorem State.setLine_arb (l : LineId) (x : LineState) (s : State) : (s.setLine l x).arb = s.arb := rfl
@[simp] theorem State.setLine_tick (l : LineId) (x : LineState) (s : State) : (s.setLine l x).tick = s.tick := rfl
@[simp] theorem State.setLine_prescale (l : LineId) (x : LineState) (s : State) : (s.setLine l x).prescale = s.prescale := rfl
@[simp] theorem State.setLine_tickPeriod (l : LineId) (x : LineState) (s : State) : (s.setLine l x).tickPeriod = s.tickPeriod := rfl
@[simp] theorem State.setLine_learnedExpiry (l : LineId) (x : LineState) (s : State) : (s.setLine l x).learnedExpiry = s.learnedExpiry := rfl
@[simp] theorem State.setLine_notices (l : LineId) (x : LineState) (s : State) : (s.setLine l x).notices = s.notices := rfl
@[simp] theorem State.setLine_threshold (l : LineId) (x : LineState) (s : State) : (s.setLine l x).threshold = s.threshold := rfl
@[simp] theorem State.setLine_holdOff (l : LineId) (x : LineState) (s : State) : (s.setLine l x).holdOff = s.holdOff := rfl
@[simp] theorem State.setLine_conditions (l : LineId) (x : LineState) (s : State) : (s.setLine l x).conditions = s.conditions := rfl
@[simp] theorem State.setLine_routes (l : LineId) (x : LineState) (s : State) : (s.setLine l x).routes = s.routes := rfl
@[simp] theorem State.setLine_capture (l : LineId) (x : LineState) (s : State) : (s.setLine l x).capture = s.capture := rfl
@[simp] theorem State.setLine_slot (l : LineId) (x : LineState) (s : State) : (s.setLine l x).slot = s.slot := rfl
@[simp] theorem State.setLine_refused (l : LineId) (x : LineState) (s : State) : (s.setLine l x).refused = s.refused := rfl
@[simp] theorem State.setLine_miso (l : LineId) (x : LineState) (s : State) : (s.setLine l x).miso = s.miso := rfl
@[simp] theorem State.setLine_freeCount (l : LineId) (x : LineState) (s : State) : (s.setLine l x).freeCount = s.freeCount := rfl
@[simp] theorem State.setLine_pending (l : LineId) (x : LineState) (s : State) : (s.setLine l x).pending = s.pending := rfl

@[simp] theorem State.modifyLine_resetHeld (l : LineId) (f : LineState → LineState) (s : State) : (s.modifyLine l f).resetHeld = s.resetHeld := rfl
@[simp] theorem State.modifyLine_mode (l : LineId) (f : LineState → LineState) (s : State) : (s.modifyLine l f).mode = s.mode := rfl
@[simp] theorem State.modifyLine_target (l : LineId) (f : LineState → LineState) (s : State) : (s.modifyLine l f).target = s.target := rfl
@[simp] theorem State.modifyLine_origin (l : LineId) (f : LineState → LineState) (s : State) : (s.modifyLine l f).origin = s.origin := rfl
@[simp] theorem State.modifyLine_transition (l : LineId) (f : LineState → LineState) (s : State) : (s.modifyLine l f).transition = s.transition := rfl
@[simp] theorem State.modifyLine_startup (l : LineId) (f : LineState → LineState) (s : State) : (s.modifyLine l f).startup = s.startup := rfl
@[simp] theorem State.modifyLine_slots (l : LineId) (f : LineState → LineState) (s : State) : (s.modifyLine l f).slots = s.slots := rfl
@[simp] theorem State.modifyLine_layout (l : LineId) (f : LineState → LineState) (s : State) : (s.modifyLine l f).layout = s.layout := rfl
@[simp] theorem State.modifyLine_victim (l : LineId) (f : LineState → LineState) (s : State) : (s.modifyLine l f).victim = s.victim := rfl
@[simp] theorem State.modifyLine_active (l : LineId) (f : LineState → LineState) (s : State) : (s.modifyLine l f).active = s.active := rfl
@[simp] theorem State.modifyLine_staged (l : LineId) (f : LineState → LineState) (s : State) : (s.modifyLine l f).staged = s.staged := rfl
@[simp] theorem State.modifyLine_commitRequested (l : LineId) (f : LineState → LineState) (s : State) : (s.modifyLine l f).commitRequested = s.commitRequested := rfl
@[simp] theorem State.modifyLine_holds (l : LineId) (f : LineState → LineState) (s : State) : (s.modifyLine l f).holds = s.holds := rfl
@[simp] theorem State.modifyLine_sweep (l : LineId) (f : LineState → LineState) (s : State) : (s.modifyLine l f).sweep = s.sweep := rfl
@[simp] theorem State.modifyLine_sweepOwed (l : LineId) (f : LineState → LineState) (s : State) : (s.modifyLine l f).sweepOwed = s.sweepOwed := rfl
@[simp] theorem State.modifyLine_purge (l : LineId) (f : LineState → LineState) (s : State) : (s.modifyLine l f).purge = s.purge := rfl
@[simp] theorem State.modifyLine_arb (l : LineId) (f : LineState → LineState) (s : State) : (s.modifyLine l f).arb = s.arb := rfl
@[simp] theorem State.modifyLine_tick (l : LineId) (f : LineState → LineState) (s : State) : (s.modifyLine l f).tick = s.tick := rfl
@[simp] theorem State.modifyLine_prescale (l : LineId) (f : LineState → LineState) (s : State) : (s.modifyLine l f).prescale = s.prescale := rfl
@[simp] theorem State.modifyLine_tickPeriod (l : LineId) (f : LineState → LineState) (s : State) : (s.modifyLine l f).tickPeriod = s.tickPeriod := rfl
@[simp] theorem State.modifyLine_learnedExpiry (l : LineId) (f : LineState → LineState) (s : State) : (s.modifyLine l f).learnedExpiry = s.learnedExpiry := rfl
@[simp] theorem State.modifyLine_notices (l : LineId) (f : LineState → LineState) (s : State) : (s.modifyLine l f).notices = s.notices := rfl
@[simp] theorem State.modifyLine_threshold (l : LineId) (f : LineState → LineState) (s : State) : (s.modifyLine l f).threshold = s.threshold := rfl
@[simp] theorem State.modifyLine_holdOff (l : LineId) (f : LineState → LineState) (s : State) : (s.modifyLine l f).holdOff = s.holdOff := rfl
@[simp] theorem State.modifyLine_conditions (l : LineId) (f : LineState → LineState) (s : State) : (s.modifyLine l f).conditions = s.conditions := rfl
@[simp] theorem State.modifyLine_routes (l : LineId) (f : LineState → LineState) (s : State) : (s.modifyLine l f).routes = s.routes := rfl
@[simp] theorem State.modifyLine_capture (l : LineId) (f : LineState → LineState) (s : State) : (s.modifyLine l f).capture = s.capture := rfl
@[simp] theorem State.modifyLine_slot (l : LineId) (f : LineState → LineState) (s : State) : (s.modifyLine l f).slot = s.slot := rfl
@[simp] theorem State.modifyLine_refused (l : LineId) (f : LineState → LineState) (s : State) : (s.modifyLine l f).refused = s.refused := rfl
@[simp] theorem State.modifyLine_miso (l : LineId) (f : LineState → LineState) (s : State) : (s.modifyLine l f).miso = s.miso := rfl
@[simp] theorem State.modifyLine_freeCount (l : LineId) (f : LineState → LineState) (s : State) : (s.modifyLine l f).freeCount = s.freeCount := rfl
@[simp] theorem State.modifyLine_pending (l : LineId) (f : LineState → LineState) (s : State) : (s.modifyLine l f).pending = s.pending := rfl

@[simp] theorem State.mapLines_resetHeld (f : LineId → LineState → LineState) (s : State) : (s.mapLines f).resetHeld = s.resetHeld := rfl
@[simp] theorem State.mapLines_mode (f : LineId → LineState → LineState) (s : State) : (s.mapLines f).mode = s.mode := rfl
@[simp] theorem State.mapLines_target (f : LineId → LineState → LineState) (s : State) : (s.mapLines f).target = s.target := rfl
@[simp] theorem State.mapLines_origin (f : LineId → LineState → LineState) (s : State) : (s.mapLines f).origin = s.origin := rfl
@[simp] theorem State.mapLines_transition (f : LineId → LineState → LineState) (s : State) : (s.mapLines f).transition = s.transition := rfl
@[simp] theorem State.mapLines_startup (f : LineId → LineState → LineState) (s : State) : (s.mapLines f).startup = s.startup := rfl
@[simp] theorem State.mapLines_slots (f : LineId → LineState → LineState) (s : State) : (s.mapLines f).slots = s.slots := rfl
@[simp] theorem State.mapLines_layout (f : LineId → LineState → LineState) (s : State) : (s.mapLines f).layout = s.layout := rfl
@[simp] theorem State.mapLines_victim (f : LineId → LineState → LineState) (s : State) : (s.mapLines f).victim = s.victim := rfl
@[simp] theorem State.mapLines_active (f : LineId → LineState → LineState) (s : State) : (s.mapLines f).active = s.active := rfl
@[simp] theorem State.mapLines_staged (f : LineId → LineState → LineState) (s : State) : (s.mapLines f).staged = s.staged := rfl
@[simp] theorem State.mapLines_commitRequested (f : LineId → LineState → LineState) (s : State) : (s.mapLines f).commitRequested = s.commitRequested := rfl
@[simp] theorem State.mapLines_holds (f : LineId → LineState → LineState) (s : State) : (s.mapLines f).holds = s.holds := rfl
@[simp] theorem State.mapLines_sweep (f : LineId → LineState → LineState) (s : State) : (s.mapLines f).sweep = s.sweep := rfl
@[simp] theorem State.mapLines_sweepOwed (f : LineId → LineState → LineState) (s : State) : (s.mapLines f).sweepOwed = s.sweepOwed := rfl
@[simp] theorem State.mapLines_purge (f : LineId → LineState → LineState) (s : State) : (s.mapLines f).purge = s.purge := rfl
@[simp] theorem State.mapLines_arb (f : LineId → LineState → LineState) (s : State) : (s.mapLines f).arb = s.arb := rfl
@[simp] theorem State.mapLines_tick (f : LineId → LineState → LineState) (s : State) : (s.mapLines f).tick = s.tick := rfl
@[simp] theorem State.mapLines_prescale (f : LineId → LineState → LineState) (s : State) : (s.mapLines f).prescale = s.prescale := rfl
@[simp] theorem State.mapLines_tickPeriod (f : LineId → LineState → LineState) (s : State) : (s.mapLines f).tickPeriod = s.tickPeriod := rfl
@[simp] theorem State.mapLines_learnedExpiry (f : LineId → LineState → LineState) (s : State) : (s.mapLines f).learnedExpiry = s.learnedExpiry := rfl
@[simp] theorem State.mapLines_notices (f : LineId → LineState → LineState) (s : State) : (s.mapLines f).notices = s.notices := rfl
@[simp] theorem State.mapLines_threshold (f : LineId → LineState → LineState) (s : State) : (s.mapLines f).threshold = s.threshold := rfl
@[simp] theorem State.mapLines_holdOff (f : LineId → LineState → LineState) (s : State) : (s.mapLines f).holdOff = s.holdOff := rfl
@[simp] theorem State.mapLines_conditions (f : LineId → LineState → LineState) (s : State) : (s.mapLines f).conditions = s.conditions := rfl
@[simp] theorem State.mapLines_routes (f : LineId → LineState → LineState) (s : State) : (s.mapLines f).routes = s.routes := rfl
@[simp] theorem State.mapLines_capture (f : LineId → LineState → LineState) (s : State) : (s.mapLines f).capture = s.capture := rfl
@[simp] theorem State.mapLines_slot (f : LineId → LineState → LineState) (s : State) : (s.mapLines f).slot = s.slot := rfl
@[simp] theorem State.mapLines_refused (f : LineId → LineState → LineState) (s : State) : (s.mapLines f).refused = s.refused := rfl
@[simp] theorem State.mapLines_miso (f : LineId → LineState → LineState) (s : State) : (s.mapLines f).miso = s.miso := rfl
@[simp] theorem State.mapLines_freeCount (f : LineId → LineState → LineState) (s : State) : (s.mapLines f).freeCount = s.freeCount := rfl
@[simp] theorem State.mapLines_pending (f : LineId → LineState → LineState) (s : State) : (s.mapLines f).pending = s.pending := rfl

@[simp] theorem State.count_resetHeld (l : LineId) (c : Counter) (s : State) : (s.count l c).resetHeld = s.resetHeld := rfl
@[simp] theorem State.count_mode (l : LineId) (c : Counter) (s : State) : (s.count l c).mode = s.mode := rfl
@[simp] theorem State.count_target (l : LineId) (c : Counter) (s : State) : (s.count l c).target = s.target := rfl
@[simp] theorem State.count_origin (l : LineId) (c : Counter) (s : State) : (s.count l c).origin = s.origin := rfl
@[simp] theorem State.count_transition (l : LineId) (c : Counter) (s : State) : (s.count l c).transition = s.transition := rfl
@[simp] theorem State.count_startup (l : LineId) (c : Counter) (s : State) : (s.count l c).startup = s.startup := rfl
@[simp] theorem State.count_slots (l : LineId) (c : Counter) (s : State) : (s.count l c).slots = s.slots := rfl
@[simp] theorem State.count_layout (l : LineId) (c : Counter) (s : State) : (s.count l c).layout = s.layout := rfl
@[simp] theorem State.count_victim (l : LineId) (c : Counter) (s : State) : (s.count l c).victim = s.victim := rfl
@[simp] theorem State.count_active (l : LineId) (c : Counter) (s : State) : (s.count l c).active = s.active := rfl
@[simp] theorem State.count_staged (l : LineId) (c : Counter) (s : State) : (s.count l c).staged = s.staged := rfl
@[simp] theorem State.count_commitRequested (l : LineId) (c : Counter) (s : State) : (s.count l c).commitRequested = s.commitRequested := rfl
@[simp] theorem State.count_holds (l : LineId) (c : Counter) (s : State) : (s.count l c).holds = s.holds := rfl
@[simp] theorem State.count_sweep (l : LineId) (c : Counter) (s : State) : (s.count l c).sweep = s.sweep := rfl
@[simp] theorem State.count_sweepOwed (l : LineId) (c : Counter) (s : State) : (s.count l c).sweepOwed = s.sweepOwed := rfl
@[simp] theorem State.count_purge (l : LineId) (c : Counter) (s : State) : (s.count l c).purge = s.purge := rfl
@[simp] theorem State.count_arb (l : LineId) (c : Counter) (s : State) : (s.count l c).arb = s.arb := rfl
@[simp] theorem State.count_tick (l : LineId) (c : Counter) (s : State) : (s.count l c).tick = s.tick := rfl
@[simp] theorem State.count_prescale (l : LineId) (c : Counter) (s : State) : (s.count l c).prescale = s.prescale := rfl
@[simp] theorem State.count_tickPeriod (l : LineId) (c : Counter) (s : State) : (s.count l c).tickPeriod = s.tickPeriod := rfl
@[simp] theorem State.count_learnedExpiry (l : LineId) (c : Counter) (s : State) : (s.count l c).learnedExpiry = s.learnedExpiry := rfl
@[simp] theorem State.count_notices (l : LineId) (c : Counter) (s : State) : (s.count l c).notices = s.notices := rfl
@[simp] theorem State.count_threshold (l : LineId) (c : Counter) (s : State) : (s.count l c).threshold = s.threshold := rfl
@[simp] theorem State.count_holdOff (l : LineId) (c : Counter) (s : State) : (s.count l c).holdOff = s.holdOff := rfl
@[simp] theorem State.count_conditions (l : LineId) (c : Counter) (s : State) : (s.count l c).conditions = s.conditions := rfl
@[simp] theorem State.count_routes (l : LineId) (c : Counter) (s : State) : (s.count l c).routes = s.routes := rfl
@[simp] theorem State.count_capture (l : LineId) (c : Counter) (s : State) : (s.count l c).capture = s.capture := rfl
@[simp] theorem State.count_slot (l : LineId) (c : Counter) (s : State) : (s.count l c).slot = s.slot := rfl
@[simp] theorem State.count_refused (l : LineId) (c : Counter) (s : State) : (s.count l c).refused = s.refused := rfl
@[simp] theorem State.count_miso (l : LineId) (c : Counter) (s : State) : (s.count l c).miso = s.miso := rfl
@[simp] theorem State.count_freeCount (l : LineId) (c : Counter) (s : State) : (s.count l c).freeCount = s.freeCount := rfl
@[simp] theorem State.count_pending (l : LineId) (c : Counter) (s : State) : (s.count l c).pending = s.pending := rfl

@[simp] theorem State.raise_resetHeld (c : Condition) (s : State) : (s.raise c).resetHeld = s.resetHeld := rfl
@[simp] theorem State.raise_mode (c : Condition) (s : State) : (s.raise c).mode = s.mode := rfl
@[simp] theorem State.raise_target (c : Condition) (s : State) : (s.raise c).target = s.target := rfl
@[simp] theorem State.raise_origin (c : Condition) (s : State) : (s.raise c).origin = s.origin := rfl
@[simp] theorem State.raise_transition (c : Condition) (s : State) : (s.raise c).transition = s.transition := rfl
@[simp] theorem State.raise_startup (c : Condition) (s : State) : (s.raise c).startup = s.startup := rfl
@[simp] theorem State.raise_slots (c : Condition) (s : State) : (s.raise c).slots = s.slots := rfl
@[simp] theorem State.raise_layout (c : Condition) (s : State) : (s.raise c).layout = s.layout := rfl
@[simp] theorem State.raise_victim (c : Condition) (s : State) : (s.raise c).victim = s.victim := rfl
@[simp] theorem State.raise_active (c : Condition) (s : State) : (s.raise c).active = s.active := rfl
@[simp] theorem State.raise_staged (c : Condition) (s : State) : (s.raise c).staged = s.staged := rfl
@[simp] theorem State.raise_commitRequested (c : Condition) (s : State) : (s.raise c).commitRequested = s.commitRequested := rfl
@[simp] theorem State.raise_holds (c : Condition) (s : State) : (s.raise c).holds = s.holds := rfl
@[simp] theorem State.raise_sweep (c : Condition) (s : State) : (s.raise c).sweep = s.sweep := rfl
@[simp] theorem State.raise_sweepOwed (c : Condition) (s : State) : (s.raise c).sweepOwed = s.sweepOwed := rfl
@[simp] theorem State.raise_purge (c : Condition) (s : State) : (s.raise c).purge = s.purge := rfl
@[simp] theorem State.raise_arb (c : Condition) (s : State) : (s.raise c).arb = s.arb := rfl
@[simp] theorem State.raise_lines (c : Condition) (s : State) : (s.raise c).lines = s.lines := rfl
@[simp] theorem State.raise_tick (c : Condition) (s : State) : (s.raise c).tick = s.tick := rfl
@[simp] theorem State.raise_prescale (c : Condition) (s : State) : (s.raise c).prescale = s.prescale := rfl
@[simp] theorem State.raise_tickPeriod (c : Condition) (s : State) : (s.raise c).tickPeriod = s.tickPeriod := rfl
@[simp] theorem State.raise_learnedExpiry (c : Condition) (s : State) : (s.raise c).learnedExpiry = s.learnedExpiry := rfl
@[simp] theorem State.raise_notices (c : Condition) (s : State) : (s.raise c).notices = s.notices := rfl
@[simp] theorem State.raise_threshold (c : Condition) (s : State) : (s.raise c).threshold = s.threshold := rfl
@[simp] theorem State.raise_holdOff (c : Condition) (s : State) : (s.raise c).holdOff = s.holdOff := rfl
@[simp] theorem State.raise_routes (c : Condition) (s : State) : (s.raise c).routes = s.routes := rfl
@[simp] theorem State.raise_capture (c : Condition) (s : State) : (s.raise c).capture = s.capture := rfl
@[simp] theorem State.raise_slot (c : Condition) (s : State) : (s.raise c).slot = s.slot := rfl
@[simp] theorem State.raise_refused (c : Condition) (s : State) : (s.raise c).refused = s.refused := rfl
@[simp] theorem State.raise_miso (c : Condition) (s : State) : (s.raise c).miso = s.miso := rfl
@[simp] theorem State.raise_freeCount (c : Condition) (s : State) : (s.raise c).freeCount = s.freeCount := rfl
@[simp] theorem State.raise_pending (c : Condition) (s : State) : (s.raise c).pending = s.pending := rfl

@[simp] theorem State.offerCapture_resetHeld (b : Bool) (x : FaultSource) (i : Nat) (s : State) : (s.offerCapture b x i).resetHeld = s.resetHeld := rfl
@[simp] theorem State.offerCapture_mode (b : Bool) (x : FaultSource) (i : Nat) (s : State) : (s.offerCapture b x i).mode = s.mode := rfl
@[simp] theorem State.offerCapture_target (b : Bool) (x : FaultSource) (i : Nat) (s : State) : (s.offerCapture b x i).target = s.target := rfl
@[simp] theorem State.offerCapture_origin (b : Bool) (x : FaultSource) (i : Nat) (s : State) : (s.offerCapture b x i).origin = s.origin := rfl
@[simp] theorem State.offerCapture_transition (b : Bool) (x : FaultSource) (i : Nat) (s : State) : (s.offerCapture b x i).transition = s.transition := rfl
@[simp] theorem State.offerCapture_startup (b : Bool) (x : FaultSource) (i : Nat) (s : State) : (s.offerCapture b x i).startup = s.startup := rfl
@[simp] theorem State.offerCapture_slots (b : Bool) (x : FaultSource) (i : Nat) (s : State) : (s.offerCapture b x i).slots = s.slots := rfl
@[simp] theorem State.offerCapture_layout (b : Bool) (x : FaultSource) (i : Nat) (s : State) : (s.offerCapture b x i).layout = s.layout := rfl
@[simp] theorem State.offerCapture_victim (b : Bool) (x : FaultSource) (i : Nat) (s : State) : (s.offerCapture b x i).victim = s.victim := rfl
@[simp] theorem State.offerCapture_active (b : Bool) (x : FaultSource) (i : Nat) (s : State) : (s.offerCapture b x i).active = s.active := rfl
@[simp] theorem State.offerCapture_staged (b : Bool) (x : FaultSource) (i : Nat) (s : State) : (s.offerCapture b x i).staged = s.staged := rfl
@[simp] theorem State.offerCapture_commitRequested (b : Bool) (x : FaultSource) (i : Nat) (s : State) : (s.offerCapture b x i).commitRequested = s.commitRequested := rfl
@[simp] theorem State.offerCapture_holds (b : Bool) (x : FaultSource) (i : Nat) (s : State) : (s.offerCapture b x i).holds = s.holds := rfl
@[simp] theorem State.offerCapture_sweep (b : Bool) (x : FaultSource) (i : Nat) (s : State) : (s.offerCapture b x i).sweep = s.sweep := rfl
@[simp] theorem State.offerCapture_sweepOwed (b : Bool) (x : FaultSource) (i : Nat) (s : State) : (s.offerCapture b x i).sweepOwed = s.sweepOwed := rfl
@[simp] theorem State.offerCapture_purge (b : Bool) (x : FaultSource) (i : Nat) (s : State) : (s.offerCapture b x i).purge = s.purge := rfl
@[simp] theorem State.offerCapture_arb (b : Bool) (x : FaultSource) (i : Nat) (s : State) : (s.offerCapture b x i).arb = s.arb := rfl
@[simp] theorem State.offerCapture_lines (b : Bool) (x : FaultSource) (i : Nat) (s : State) : (s.offerCapture b x i).lines = s.lines := rfl
@[simp] theorem State.offerCapture_tick (b : Bool) (x : FaultSource) (i : Nat) (s : State) : (s.offerCapture b x i).tick = s.tick := rfl
@[simp] theorem State.offerCapture_prescale (b : Bool) (x : FaultSource) (i : Nat) (s : State) : (s.offerCapture b x i).prescale = s.prescale := rfl
@[simp] theorem State.offerCapture_tickPeriod (b : Bool) (x : FaultSource) (i : Nat) (s : State) : (s.offerCapture b x i).tickPeriod = s.tickPeriod := rfl
@[simp] theorem State.offerCapture_learnedExpiry (b : Bool) (x : FaultSource) (i : Nat) (s : State) : (s.offerCapture b x i).learnedExpiry = s.learnedExpiry := rfl
@[simp] theorem State.offerCapture_notices (b : Bool) (x : FaultSource) (i : Nat) (s : State) : (s.offerCapture b x i).notices = s.notices := rfl
@[simp] theorem State.offerCapture_threshold (b : Bool) (x : FaultSource) (i : Nat) (s : State) : (s.offerCapture b x i).threshold = s.threshold := rfl
@[simp] theorem State.offerCapture_holdOff (b : Bool) (x : FaultSource) (i : Nat) (s : State) : (s.offerCapture b x i).holdOff = s.holdOff := rfl
@[simp] theorem State.offerCapture_conditions (b : Bool) (x : FaultSource) (i : Nat) (s : State) : (s.offerCapture b x i).conditions = s.conditions := rfl
@[simp] theorem State.offerCapture_routes (b : Bool) (x : FaultSource) (i : Nat) (s : State) : (s.offerCapture b x i).routes = s.routes := rfl
@[simp] theorem State.offerCapture_slot (b : Bool) (x : FaultSource) (i : Nat) (s : State) : (s.offerCapture b x i).slot = s.slot := rfl
@[simp] theorem State.offerCapture_refused (b : Bool) (x : FaultSource) (i : Nat) (s : State) : (s.offerCapture b x i).refused = s.refused := rfl
@[simp] theorem State.offerCapture_miso (b : Bool) (x : FaultSource) (i : Nat) (s : State) : (s.offerCapture b x i).miso = s.miso := rfl
@[simp] theorem State.offerCapture_freeCount (b : Bool) (x : FaultSource) (i : Nat) (s : State) : (s.offerCapture b x i).freeCount = s.freeCount := rfl
@[simp] theorem State.offerCapture_pending (b : Bool) (x : FaultSource) (i : Nat) (s : State) : (s.offerCapture b x i).pending = s.pending := rfl

@[simp] theorem State.complete_resetHeld (c : ResultCode) (b : List Byte) (s : State) : (s.complete c b).resetHeld = s.resetHeld := rfl
@[simp] theorem State.complete_mode (c : ResultCode) (b : List Byte) (s : State) : (s.complete c b).mode = s.mode := rfl
@[simp] theorem State.complete_target (c : ResultCode) (b : List Byte) (s : State) : (s.complete c b).target = s.target := rfl
@[simp] theorem State.complete_origin (c : ResultCode) (b : List Byte) (s : State) : (s.complete c b).origin = s.origin := rfl
@[simp] theorem State.complete_transition (c : ResultCode) (b : List Byte) (s : State) : (s.complete c b).transition = s.transition := rfl
@[simp] theorem State.complete_startup (c : ResultCode) (b : List Byte) (s : State) : (s.complete c b).startup = s.startup := rfl
@[simp] theorem State.complete_slots (c : ResultCode) (b : List Byte) (s : State) : (s.complete c b).slots = s.slots := rfl
@[simp] theorem State.complete_layout (c : ResultCode) (b : List Byte) (s : State) : (s.complete c b).layout = s.layout := rfl
@[simp] theorem State.complete_victim (c : ResultCode) (b : List Byte) (s : State) : (s.complete c b).victim = s.victim := rfl
@[simp] theorem State.complete_active (c : ResultCode) (b : List Byte) (s : State) : (s.complete c b).active = s.active := rfl
@[simp] theorem State.complete_staged (c : ResultCode) (b : List Byte) (s : State) : (s.complete c b).staged = s.staged := rfl
@[simp] theorem State.complete_commitRequested (c : ResultCode) (b : List Byte) (s : State) : (s.complete c b).commitRequested = s.commitRequested := rfl
@[simp] theorem State.complete_holds (c : ResultCode) (b : List Byte) (s : State) : (s.complete c b).holds = s.holds := rfl
@[simp] theorem State.complete_sweep (c : ResultCode) (b : List Byte) (s : State) : (s.complete c b).sweep = s.sweep := rfl
@[simp] theorem State.complete_sweepOwed (c : ResultCode) (b : List Byte) (s : State) : (s.complete c b).sweepOwed = s.sweepOwed := rfl
@[simp] theorem State.complete_purge (c : ResultCode) (b : List Byte) (s : State) : (s.complete c b).purge = s.purge := rfl
@[simp] theorem State.complete_arb (c : ResultCode) (b : List Byte) (s : State) : (s.complete c b).arb = s.arb := rfl
@[simp] theorem State.complete_lines (c : ResultCode) (b : List Byte) (s : State) : (s.complete c b).lines = s.lines := rfl
@[simp] theorem State.complete_tick (c : ResultCode) (b : List Byte) (s : State) : (s.complete c b).tick = s.tick := rfl
@[simp] theorem State.complete_prescale (c : ResultCode) (b : List Byte) (s : State) : (s.complete c b).prescale = s.prescale := rfl
@[simp] theorem State.complete_tickPeriod (c : ResultCode) (b : List Byte) (s : State) : (s.complete c b).tickPeriod = s.tickPeriod := rfl
@[simp] theorem State.complete_learnedExpiry (c : ResultCode) (b : List Byte) (s : State) : (s.complete c b).learnedExpiry = s.learnedExpiry := rfl
@[simp] theorem State.complete_notices (c : ResultCode) (b : List Byte) (s : State) : (s.complete c b).notices = s.notices := rfl
@[simp] theorem State.complete_threshold (c : ResultCode) (b : List Byte) (s : State) : (s.complete c b).threshold = s.threshold := rfl
@[simp] theorem State.complete_holdOff (c : ResultCode) (b : List Byte) (s : State) : (s.complete c b).holdOff = s.holdOff := rfl
@[simp] theorem State.complete_conditions (c : ResultCode) (b : List Byte) (s : State) : (s.complete c b).conditions = s.conditions := rfl
@[simp] theorem State.complete_routes (c : ResultCode) (b : List Byte) (s : State) : (s.complete c b).routes = s.routes := rfl
@[simp] theorem State.complete_capture (c : ResultCode) (b : List Byte) (s : State) : (s.complete c b).capture = s.capture := rfl
@[simp] theorem State.complete_refused (c : ResultCode) (b : List Byte) (s : State) : (s.complete c b).refused = s.refused := rfl
@[simp] theorem State.complete_miso (c : ResultCode) (b : List Byte) (s : State) : (s.complete c b).miso = s.miso := rfl
@[simp] theorem State.complete_freeCount (c : ResultCode) (b : List Byte) (s : State) : (s.complete c b).freeCount = s.freeCount := rfl
@[simp] theorem State.complete_pending (c : ResultCode) (b : List Byte) (s : State) : (s.complete c b).pending = s.pending := rfl

@[simp] theorem State.clockOut_resetHeld (b : List Byte) (s : State) : (s.clockOut b).resetHeld = s.resetHeld := rfl
@[simp] theorem State.clockOut_mode (b : List Byte) (s : State) : (s.clockOut b).mode = s.mode := rfl
@[simp] theorem State.clockOut_target (b : List Byte) (s : State) : (s.clockOut b).target = s.target := rfl
@[simp] theorem State.clockOut_origin (b : List Byte) (s : State) : (s.clockOut b).origin = s.origin := rfl
@[simp] theorem State.clockOut_transition (b : List Byte) (s : State) : (s.clockOut b).transition = s.transition := rfl
@[simp] theorem State.clockOut_startup (b : List Byte) (s : State) : (s.clockOut b).startup = s.startup := rfl
@[simp] theorem State.clockOut_slots (b : List Byte) (s : State) : (s.clockOut b).slots = s.slots := rfl
@[simp] theorem State.clockOut_layout (b : List Byte) (s : State) : (s.clockOut b).layout = s.layout := rfl
@[simp] theorem State.clockOut_victim (b : List Byte) (s : State) : (s.clockOut b).victim = s.victim := rfl
@[simp] theorem State.clockOut_active (b : List Byte) (s : State) : (s.clockOut b).active = s.active := rfl
@[simp] theorem State.clockOut_staged (b : List Byte) (s : State) : (s.clockOut b).staged = s.staged := rfl
@[simp] theorem State.clockOut_commitRequested (b : List Byte) (s : State) : (s.clockOut b).commitRequested = s.commitRequested := rfl
@[simp] theorem State.clockOut_holds (b : List Byte) (s : State) : (s.clockOut b).holds = s.holds := rfl
@[simp] theorem State.clockOut_sweep (b : List Byte) (s : State) : (s.clockOut b).sweep = s.sweep := rfl
@[simp] theorem State.clockOut_sweepOwed (b : List Byte) (s : State) : (s.clockOut b).sweepOwed = s.sweepOwed := rfl
@[simp] theorem State.clockOut_purge (b : List Byte) (s : State) : (s.clockOut b).purge = s.purge := rfl
@[simp] theorem State.clockOut_arb (b : List Byte) (s : State) : (s.clockOut b).arb = s.arb := rfl
@[simp] theorem State.clockOut_lines (b : List Byte) (s : State) : (s.clockOut b).lines = s.lines := rfl
@[simp] theorem State.clockOut_tick (b : List Byte) (s : State) : (s.clockOut b).tick = s.tick := rfl
@[simp] theorem State.clockOut_prescale (b : List Byte) (s : State) : (s.clockOut b).prescale = s.prescale := rfl
@[simp] theorem State.clockOut_tickPeriod (b : List Byte) (s : State) : (s.clockOut b).tickPeriod = s.tickPeriod := rfl
@[simp] theorem State.clockOut_learnedExpiry (b : List Byte) (s : State) : (s.clockOut b).learnedExpiry = s.learnedExpiry := rfl
@[simp] theorem State.clockOut_notices (b : List Byte) (s : State) : (s.clockOut b).notices = s.notices := rfl
@[simp] theorem State.clockOut_threshold (b : List Byte) (s : State) : (s.clockOut b).threshold = s.threshold := rfl
@[simp] theorem State.clockOut_holdOff (b : List Byte) (s : State) : (s.clockOut b).holdOff = s.holdOff := rfl
@[simp] theorem State.clockOut_conditions (b : List Byte) (s : State) : (s.clockOut b).conditions = s.conditions := rfl
@[simp] theorem State.clockOut_routes (b : List Byte) (s : State) : (s.clockOut b).routes = s.routes := rfl
@[simp] theorem State.clockOut_capture (b : List Byte) (s : State) : (s.clockOut b).capture = s.capture := rfl
@[simp] theorem State.clockOut_slot (b : List Byte) (s : State) : (s.clockOut b).slot = s.slot := rfl
@[simp] theorem State.clockOut_refused (b : List Byte) (s : State) : (s.clockOut b).refused = s.refused := rfl
@[simp] theorem State.clockOut_freeCount (b : List Byte) (s : State) : (s.clockOut b).freeCount = s.freeCount := rfl
@[simp] theorem State.clockOut_pending (b : List Byte) (s : State) : (s.clockOut b).pending = s.pending := rfl

@[simp] theorem State.grantCommand_resetHeld (s : State) : (s.grantCommand).resetHeld = s.resetHeld := rfl
@[simp] theorem State.grantCommand_mode (s : State) : (s.grantCommand).mode = s.mode := rfl
@[simp] theorem State.grantCommand_target (s : State) : (s.grantCommand).target = s.target := rfl
@[simp] theorem State.grantCommand_origin (s : State) : (s.grantCommand).origin = s.origin := rfl
@[simp] theorem State.grantCommand_transition (s : State) : (s.grantCommand).transition = s.transition := rfl
@[simp] theorem State.grantCommand_startup (s : State) : (s.grantCommand).startup = s.startup := rfl
@[simp] theorem State.grantCommand_slots (s : State) : (s.grantCommand).slots = s.slots := rfl
@[simp] theorem State.grantCommand_layout (s : State) : (s.grantCommand).layout = s.layout := rfl
@[simp] theorem State.grantCommand_victim (s : State) : (s.grantCommand).victim = s.victim := rfl
@[simp] theorem State.grantCommand_active (s : State) : (s.grantCommand).active = s.active := rfl
@[simp] theorem State.grantCommand_staged (s : State) : (s.grantCommand).staged = s.staged := rfl
@[simp] theorem State.grantCommand_commitRequested (s : State) : (s.grantCommand).commitRequested = s.commitRequested := rfl
@[simp] theorem State.grantCommand_holds (s : State) : (s.grantCommand).holds = s.holds := rfl
@[simp] theorem State.grantCommand_sweep (s : State) : (s.grantCommand).sweep = s.sweep := rfl
@[simp] theorem State.grantCommand_sweepOwed (s : State) : (s.grantCommand).sweepOwed = s.sweepOwed := rfl
@[simp] theorem State.grantCommand_purge (s : State) : (s.grantCommand).purge = s.purge := rfl
@[simp] theorem State.grantCommand_lines (s : State) : (s.grantCommand).lines = s.lines := rfl
@[simp] theorem State.grantCommand_tick (s : State) : (s.grantCommand).tick = s.tick := rfl
@[simp] theorem State.grantCommand_prescale (s : State) : (s.grantCommand).prescale = s.prescale := rfl
@[simp] theorem State.grantCommand_tickPeriod (s : State) : (s.grantCommand).tickPeriod = s.tickPeriod := rfl
@[simp] theorem State.grantCommand_learnedExpiry (s : State) : (s.grantCommand).learnedExpiry = s.learnedExpiry := rfl
@[simp] theorem State.grantCommand_notices (s : State) : (s.grantCommand).notices = s.notices := rfl
@[simp] theorem State.grantCommand_threshold (s : State) : (s.grantCommand).threshold = s.threshold := rfl
@[simp] theorem State.grantCommand_holdOff (s : State) : (s.grantCommand).holdOff = s.holdOff := rfl
@[simp] theorem State.grantCommand_conditions (s : State) : (s.grantCommand).conditions = s.conditions := rfl
@[simp] theorem State.grantCommand_routes (s : State) : (s.grantCommand).routes = s.routes := rfl
@[simp] theorem State.grantCommand_capture (s : State) : (s.grantCommand).capture = s.capture := rfl
@[simp] theorem State.grantCommand_slot (s : State) : (s.grantCommand).slot = s.slot := rfl
@[simp] theorem State.grantCommand_refused (s : State) : (s.grantCommand).refused = s.refused := rfl
@[simp] theorem State.grantCommand_miso (s : State) : (s.grantCommand).miso = s.miso := rfl
@[simp] theorem State.grantCommand_freeCount (s : State) : (s.grantCommand).freeCount = s.freeCount := rfl
@[simp] theorem State.grantCommand_pending (s : State) : (s.grantCommand).pending = s.pending := rfl

@[simp] theorem State.grantLine_resetHeld (l : LineId) (s : State) : (s.grantLine l).resetHeld = s.resetHeld := rfl
@[simp] theorem State.grantLine_mode (l : LineId) (s : State) : (s.grantLine l).mode = s.mode := rfl
@[simp] theorem State.grantLine_target (l : LineId) (s : State) : (s.grantLine l).target = s.target := rfl
@[simp] theorem State.grantLine_origin (l : LineId) (s : State) : (s.grantLine l).origin = s.origin := rfl
@[simp] theorem State.grantLine_transition (l : LineId) (s : State) : (s.grantLine l).transition = s.transition := rfl
@[simp] theorem State.grantLine_startup (l : LineId) (s : State) : (s.grantLine l).startup = s.startup := rfl
@[simp] theorem State.grantLine_slots (l : LineId) (s : State) : (s.grantLine l).slots = s.slots := rfl
@[simp] theorem State.grantLine_layout (l : LineId) (s : State) : (s.grantLine l).layout = s.layout := rfl
@[simp] theorem State.grantLine_victim (l : LineId) (s : State) : (s.grantLine l).victim = s.victim := rfl
@[simp] theorem State.grantLine_active (l : LineId) (s : State) : (s.grantLine l).active = s.active := rfl
@[simp] theorem State.grantLine_staged (l : LineId) (s : State) : (s.grantLine l).staged = s.staged := rfl
@[simp] theorem State.grantLine_commitRequested (l : LineId) (s : State) : (s.grantLine l).commitRequested = s.commitRequested := rfl
@[simp] theorem State.grantLine_holds (l : LineId) (s : State) : (s.grantLine l).holds = s.holds := rfl
@[simp] theorem State.grantLine_sweep (l : LineId) (s : State) : (s.grantLine l).sweep = s.sweep := rfl
@[simp] theorem State.grantLine_sweepOwed (l : LineId) (s : State) : (s.grantLine l).sweepOwed = s.sweepOwed := rfl
@[simp] theorem State.grantLine_purge (l : LineId) (s : State) : (s.grantLine l).purge = s.purge := rfl
@[simp] theorem State.grantLine_lines (l : LineId) (s : State) : (s.grantLine l).lines = s.lines := rfl
@[simp] theorem State.grantLine_tick (l : LineId) (s : State) : (s.grantLine l).tick = s.tick := rfl
@[simp] theorem State.grantLine_prescale (l : LineId) (s : State) : (s.grantLine l).prescale = s.prescale := rfl
@[simp] theorem State.grantLine_tickPeriod (l : LineId) (s : State) : (s.grantLine l).tickPeriod = s.tickPeriod := rfl
@[simp] theorem State.grantLine_learnedExpiry (l : LineId) (s : State) : (s.grantLine l).learnedExpiry = s.learnedExpiry := rfl
@[simp] theorem State.grantLine_notices (l : LineId) (s : State) : (s.grantLine l).notices = s.notices := rfl
@[simp] theorem State.grantLine_threshold (l : LineId) (s : State) : (s.grantLine l).threshold = s.threshold := rfl
@[simp] theorem State.grantLine_holdOff (l : LineId) (s : State) : (s.grantLine l).holdOff = s.holdOff := rfl
@[simp] theorem State.grantLine_conditions (l : LineId) (s : State) : (s.grantLine l).conditions = s.conditions := rfl
@[simp] theorem State.grantLine_routes (l : LineId) (s : State) : (s.grantLine l).routes = s.routes := rfl
@[simp] theorem State.grantLine_capture (l : LineId) (s : State) : (s.grantLine l).capture = s.capture := rfl
@[simp] theorem State.grantLine_slot (l : LineId) (s : State) : (s.grantLine l).slot = s.slot := rfl
@[simp] theorem State.grantLine_refused (l : LineId) (s : State) : (s.grantLine l).refused = s.refused := rfl
@[simp] theorem State.grantLine_miso (l : LineId) (s : State) : (s.grantLine l).miso = s.miso := rfl
@[simp] theorem State.grantLine_freeCount (l : LineId) (s : State) : (s.grantLine l).freeCount = s.freeCount := rfl
@[simp] theorem State.grantLine_pending (l : LineId) (s : State) : (s.grantLine l).pending = s.pending := rfl

@[simp] theorem State.grantSweep_resetHeld (s : State) : (s.grantSweep).resetHeld = s.resetHeld := rfl
@[simp] theorem State.grantSweep_mode (s : State) : (s.grantSweep).mode = s.mode := rfl
@[simp] theorem State.grantSweep_target (s : State) : (s.grantSweep).target = s.target := rfl
@[simp] theorem State.grantSweep_origin (s : State) : (s.grantSweep).origin = s.origin := rfl
@[simp] theorem State.grantSweep_transition (s : State) : (s.grantSweep).transition = s.transition := rfl
@[simp] theorem State.grantSweep_startup (s : State) : (s.grantSweep).startup = s.startup := rfl
@[simp] theorem State.grantSweep_slots (s : State) : (s.grantSweep).slots = s.slots := rfl
@[simp] theorem State.grantSweep_layout (s : State) : (s.grantSweep).layout = s.layout := rfl
@[simp] theorem State.grantSweep_victim (s : State) : (s.grantSweep).victim = s.victim := rfl
@[simp] theorem State.grantSweep_active (s : State) : (s.grantSweep).active = s.active := rfl
@[simp] theorem State.grantSweep_staged (s : State) : (s.grantSweep).staged = s.staged := rfl
@[simp] theorem State.grantSweep_commitRequested (s : State) : (s.grantSweep).commitRequested = s.commitRequested := rfl
@[simp] theorem State.grantSweep_holds (s : State) : (s.grantSweep).holds = s.holds := rfl
@[simp] theorem State.grantSweep_sweep (s : State) : (s.grantSweep).sweep = s.sweep := rfl
@[simp] theorem State.grantSweep_sweepOwed (s : State) : (s.grantSweep).sweepOwed = s.sweepOwed := rfl
@[simp] theorem State.grantSweep_purge (s : State) : (s.grantSweep).purge = s.purge := rfl
@[simp] theorem State.grantSweep_lines (s : State) : (s.grantSweep).lines = s.lines := rfl
@[simp] theorem State.grantSweep_tick (s : State) : (s.grantSweep).tick = s.tick := rfl
@[simp] theorem State.grantSweep_prescale (s : State) : (s.grantSweep).prescale = s.prescale := rfl
@[simp] theorem State.grantSweep_tickPeriod (s : State) : (s.grantSweep).tickPeriod = s.tickPeriod := rfl
@[simp] theorem State.grantSweep_learnedExpiry (s : State) : (s.grantSweep).learnedExpiry = s.learnedExpiry := rfl
@[simp] theorem State.grantSweep_notices (s : State) : (s.grantSweep).notices = s.notices := rfl
@[simp] theorem State.grantSweep_threshold (s : State) : (s.grantSweep).threshold = s.threshold := rfl
@[simp] theorem State.grantSweep_holdOff (s : State) : (s.grantSweep).holdOff = s.holdOff := rfl
@[simp] theorem State.grantSweep_conditions (s : State) : (s.grantSweep).conditions = s.conditions := rfl
@[simp] theorem State.grantSweep_routes (s : State) : (s.grantSweep).routes = s.routes := rfl
@[simp] theorem State.grantSweep_capture (s : State) : (s.grantSweep).capture = s.capture := rfl
@[simp] theorem State.grantSweep_slot (s : State) : (s.grantSweep).slot = s.slot := rfl
@[simp] theorem State.grantSweep_refused (s : State) : (s.grantSweep).refused = s.refused := rfl
@[simp] theorem State.grantSweep_miso (s : State) : (s.grantSweep).miso = s.miso := rfl
@[simp] theorem State.grantSweep_freeCount (s : State) : (s.grantSweep).freeCount = s.freeCount := rfl
@[simp] theorem State.grantSweep_pending (s : State) : (s.grantSweep).pending = s.pending := rfl

/-! ## Slots after an update -/

theorem State.slotAt_eq_of_slots {s t : State} (h : s.slots = t.slots) (i : Nat) : s.slotAt i = t.slotAt i := by
  simp [State.slotAt, h]

/-- A slot number past the table reads as a slot that holds nothing. -/
theorem State.slotAt_of_le (s : State) {i : Nat} (h : 512 ≤ i) : s.slotAt i = Slot.reset := by
  simp [State.slotAt, Vector.getElem?_eq_none h]

theorem State.slotAt_setSlot_self (s : State) {i : Nat} (x : Slot) (h : i < 512) : (s.setSlot i x).slotAt i = x := by
  simp [State.slotAt, State.setSlot, h]

theorem State.slotAt_setSlot_ne (s : State) {i j : Nat} (x : Slot) (h : j ≠ i) : (s.setSlot i x).slotAt j = s.slotAt j := by
  simp [State.slotAt, State.setSlot, Ne.symm h]

theorem State.slotAt_modifySlot_self (s : State) {i : Nat} (f : Slot → Slot) (h : i < 512) :
    (s.modifySlot i f).slotAt i = f (s.slotAt i) := s.slotAt_setSlot_self _ h

theorem State.slotAt_modifySlot_ne (s : State) {i j : Nat} (f : Slot → Slot) (h : j ≠ i) :
    (s.modifySlot i f).slotAt j = s.slotAt j := s.slotAt_setSlot_ne _ h

/-- What any slot reads after a change of one slot; past the table nothing changes. -/
theorem State.slotAt_modifySlot (s : State) (i j : Nat) (f : Slot → Slot) :
    (s.modifySlot i f).slotAt j = if j = i ∧ i < 512 then f (s.slotAt i) else s.slotAt j := by
  by_cases hj : j = i
  · subst hj
    by_cases h : j < 512
    · simp [State.slotAt_modifySlot_self, h]
    · rw [State.slotAt_of_le _ (Nat.le_of_not_lt h), State.slotAt_of_le _ (Nat.le_of_not_lt h)]
      simp [h]
  · simp [State.slotAt_modifySlot_ne, hj]

theorem State.slotAt_setSlot (s : State) (i j : Nat) (x : Slot) :
    (s.setSlot i x).slotAt j = if j = i ∧ i < 512 then x else s.slotAt j := s.slotAt_modifySlot i j fun _ => x

/-- What any slot reads after a change of every slot. -/
theorem State.slotAt_mapSlots (s : State) (f : Slot → Slot) (i : Nat) :
    (s.mapSlots f).slotAt i = if i < 512 then f (s.slotAt i) else Slot.reset := by
  by_cases h : i < 512
  · simp [State.slotAt, State.mapSlots, h]
  · rw [State.slotAt_of_le _ (Nat.le_of_not_lt h)]
    simp [h]

/-- Writing a slot back as it is changes nothing. -/
theorem State.setSlot_slotAt (s : State) (i : Nat) : s.setSlot i (s.slotAt i) = s := by
  have h : s.slots.setIfInBounds i (s.slotAt i) = s.slots := by
    ext j hj
    simp only [Vector.getElem_setIfInBounds, State.slotAt]
    split
    · subst_vars
      simp [hj]
    · rfl
  simp [State.setSlot, h]

/-- Of two writes to one slot the second counts. -/
theorem State.setSlot_setSlot (s : State) (i : Nat) (x y : Slot) : (s.setSlot i x).setSlot i y = s.setSlot i y := by
  simp only [State.setSlot]
  congr 1
  ext j hj
  simp only [Vector.getElem_setIfInBounds]
  split <;> rfl

/-- Two states that agree at every slot have the same slots. -/
theorem State.slots_ext {s t : State} (h : ∀ i, s.slotAt i = t.slotAt i) : s.slots = t.slots := by
  ext j hj
  simpa [State.slotAt, hj] using h j

/-! ## Lines after an update -/

theorem State.line_setLine (s : State) (l k : LineId) (x : LineState) :
    (s.setLine l x).line k = if k = l then x else s.line k := by
  simp only [State.line, State.setLine, Vector.get_eq_getElem, Vector.getElem_set, Fin.ext_iff, eq_comm]

theorem State.line_modifyLine (s : State) (l k : LineId) (f : LineState → LineState) :
    (s.modifyLine l f).line k = if k = l then f (s.line l) else s.line k := s.line_setLine l k _

theorem State.line_mapLines (s : State) (f : LineId → LineState → LineState) (l : LineId) :
    (s.mapLines f).line l = f l (s.line l) := by
  fin_cases l <;> rfl

/-- Writing a line back as it is changes nothing. -/
theorem State.setLine_line (s : State) (l : LineId) : s.setLine l (s.line l) = s := by
  have h : s.lines.set l.val (s.line l) l.isLt = s.lines := by
    ext j hj
    simp only [Vector.getElem_set, State.line, Vector.get_eq_getElem]
    split
    · subst_vars
      rfl
    · rfl
  simp [State.setLine, h]

/-- Two vectors of lines that agree at every line are equal. -/
theorem State.lines_ext {a b : Vector LineState 4} (h : ∀ l : LineId, a.get l = b.get l) : a = b := by
  ext j hj
  exact h ⟨j, hj⟩

/-- A change of every line that leaves each as it is changes nothing. -/
theorem State.mapLines_eq_self (s : State) (f : LineId → LineState → LineState) (h : ∀ l, f l (s.line l) = s.line l) :
    s.mapLines f = s := by
  have e : (s.mapLines f).lines = s.lines := State.lines_ext fun l => (s.line_mapLines f l).trans (h l)
  calc s.mapLines f = { s with lines := (s.mapLines f).lines } := rfl
    _ = s := by rw [e]

end Sys2Proof.Machine
end

