-- ==== Sys2Proof/Laws/Fields.lean ====
section
/-! SUPPORT. One lemma per field that a shared operation leaves alone. -/

namespace Sys2Proof.Machine

@[simp] theorem State.post_resetHeld (h : Handle) (k : NoticeKind) (s : State) : (s.post h k).resetHeld = s.resetHeld := by
  unfold State.post; repeat' split
  all_goals rfl
@[simp] theorem State.post_mode (h : Handle) (k : NoticeKind) (s : State) : (s.post h k).mode = s.mode := by
  unfold State.post; repeat' split
  all_goals rfl
@[simp] theorem State.post_target (h : Handle) (k : NoticeKind) (s : State) : (s.post h k).target = s.target := by
  unfold State.post; repeat' split
  all_goals rfl
@[simp] theorem State.post_origin (h : Handle) (k : NoticeKind) (s : State) : (s.post h k).origin = s.origin := by
  unfold State.post; repeat' split
  all_goals rfl
@[simp] theorem State.post_transition (h : Handle) (k : NoticeKind) (s : State) : (s.post h k).transition = s.transition := by
  unfold State.post; repeat' split
  all_goals rfl
@[simp] theorem State.post_startup (h : Handle) (k : NoticeKind) (s : State) : (s.post h k).startup = s.startup := by
  unfold State.post; repeat' split
  all_goals rfl
@[simp] theorem State.post_layout (h : Handle) (k : NoticeKind) (s : State) : (s.post h k).layout = s.layout := by
  unfold State.post; repeat' split
  all_goals rfl
@[simp] theorem State.post_victim (h : Handle) (k : NoticeKind) (s : State) : (s.post h k).victim = s.victim := by
  unfold State.post; repeat' split
  all_goals rfl
@[simp] theorem State.post_active (h : Handle) (k : NoticeKind) (s : State) : (s.post h k).active = s.active := by
  unfold State.post; repeat' split
  all_goals rfl
@[simp] theorem State.post_staged (h : Handle) (k : NoticeKind) (s : State) : (s.post h k).staged = s.staged := by
  unfold State.post; repeat' split
  all_goals rfl
@[simp] theorem State.post_commitRequested (h : Handle) (k : NoticeKind) (s : State) : (s.post h k).commitRequested = s.commitRequested := by
  unfold State.post; repeat' split
  all_goals rfl
@[simp] theorem State.post_holds (h : Handle) (k : NoticeKind) (s : State) : (s.post h k).holds = s.holds := by
  unfold State.post; repeat' split
  all_goals rfl
@[simp] theorem State.post_sweep (h : Handle) (k : NoticeKind) (s : State) : (s.post h k).sweep = s.sweep := by
  unfold State.post; repeat' split
  all_goals rfl
@[simp] theorem State.post_sweepOwed (h : Handle) (k : NoticeKind) (s : State) : (s.post h k).sweepOwed = s.sweepOwed := by
  unfold State.post; repeat' split
  all_goals rfl
@[simp] theorem State.post_purge (h : Handle) (k : NoticeKind) (s : State) : (s.post h k).purge = s.purge := by
  unfold State.post; repeat' split
  all_goals rfl
@[simp] theorem State.post_arb (h : Handle) (k : NoticeKind) (s : State) : (s.post h k).arb = s.arb := by
  unfold State.post; repeat' split
  all_goals rfl
@[simp] theorem State.post_lines (h : Handle) (k : NoticeKind) (s : State) : (s.post h k).lines = s.lines := by
  unfold State.post; repeat' split
  all_goals rfl
@[simp] theorem State.post_tick (h : Handle) (k : NoticeKind) (s : State) : (s.post h k).tick = s.tick := by
  unfold State.post; repeat' split
  all_goals rfl
@[simp] theorem State.post_prescale (h : Handle) (k : NoticeKind) (s : State) : (s.post h k).prescale = s.prescale := by
  unfold State.post; repeat' split
  all_goals rfl
@[simp] theorem State.post_tickPeriod (h : Handle) (k : NoticeKind) (s : State) : (s.post h k).tickPeriod = s.tickPeriod := by
  unfold State.post; repeat' split
  all_goals rfl
@[simp] theorem State.post_learnedExpiry (h : Handle) (k : NoticeKind) (s : State) : (s.post h k).learnedExpiry = s.learnedExpiry := by
  unfold State.post; repeat' split
  all_goals rfl
@[simp] theorem State.post_threshold (h : Handle) (k : NoticeKind) (s : State) : (s.post h k).threshold = s.threshold := by
  unfold State.post; repeat' split
  all_goals rfl
@[simp] theorem State.post_holdOff (h : Handle) (k : NoticeKind) (s : State) : (s.post h k).holdOff = s.holdOff := by
  unfold State.post; repeat' split
  all_goals rfl
@[simp] theorem State.post_routes (h : Handle) (k : NoticeKind) (s : State) : (s.post h k).routes = s.routes := by
  unfold State.post; repeat' split
  all_goals rfl
@[simp] theorem State.post_capture (h : Handle) (k : NoticeKind) (s : State) : (s.post h k).capture = s.capture := by
  unfold State.post; repeat' split
  all_goals rfl
@[simp] theorem State.post_slot (h : Handle) (k : NoticeKind) (s : State) : (s.post h k).slot = s.slot := by
  unfold State.post; repeat' split
  all_goals rfl
@[simp] theorem State.post_refused (h : Handle) (k : NoticeKind) (s : State) : (s.post h k).refused = s.refused := by
  unfold State.post; repeat' split
  all_goals rfl
@[simp] theorem State.post_miso (h : Handle) (k : NoticeKind) (s : State) : (s.post h k).miso = s.miso := by
  unfold State.post; repeat' split
  all_goals rfl
@[simp] theorem State.post_freeCount (h : Handle) (k : NoticeKind) (s : State) : (s.post h k).freeCount = s.freeCount := by
  unfold State.post; repeat' split
  all_goals rfl
@[simp] theorem State.post_pending (h : Handle) (k : NoticeKind) (s : State) : (s.post h k).pending = s.pending := by
  unfold State.post; repeat' split
  all_goals rfl

@[simp] theorem State.postIf_resetHeld (c : Bool) (h : Handle) (k : NoticeKind) (s : State) : (s.postIf c h k).resetHeld = s.resetHeld := by cases c <;> simp [State.postIf]
@[simp] theorem State.postIf_mode (c : Bool) (h : Handle) (k : NoticeKind) (s : State) : (s.postIf c h k).mode = s.mode := by cases c <;> simp [State.postIf]
@[simp] theorem State.postIf_target (c : Bool) (h : Handle) (k : NoticeKind) (s : State) : (s.postIf c h k).target = s.target := by cases c <;> simp [State.postIf]
@[simp] theorem State.postIf_origin (c : Bool) (h : Handle) (k : NoticeKind) (s : State) : (s.postIf c h k).origin = s.origin := by cases c <;> simp [State.postIf]
@[simp] theorem State.postIf_transition (c : Bool) (h : Handle) (k : NoticeKind) (s : State) : (s.postIf c h k).transition = s.transition := by cases c <;> simp [State.postIf]
@[simp] theorem State.postIf_startup (c : Bool) (h : Handle) (k : NoticeKind) (s : State) : (s.postIf c h k).startup = s.startup := by cases c <;> simp [State.postIf]
@[simp] theorem State.postIf_layout (c : Bool) (h : Handle) (k : NoticeKind) (s : State) : (s.postIf c h k).layout = s.layout := by cases c <;> simp [State.postIf]
@[simp] theorem State.postIf_victim (c : Bool) (h : Handle) (k : NoticeKind) (s : State) : (s.postIf c h k).victim = s.victim := by cases c <;> simp [State.postIf]
@[simp] theorem State.postIf_active (c : Bool) (h : Handle) (k : NoticeKind) (s : State) : (s.postIf c h k).active = s.active := by cases c <;> simp [State.postIf]
@[simp] theorem State.postIf_staged (c : Bool) (h : Handle) (k : NoticeKind) (s : State) : (s.postIf c h k).staged = s.staged := by cases c <;> simp [State.postIf]
@[simp] theorem State.postIf_commitRequested (c : Bool) (h : Handle) (k : NoticeKind) (s : State) : (s.postIf c h k).commitRequested = s.commitRequested := by cases c <;> simp [State.postIf]
@[simp] theorem State.postIf_holds (c : Bool) (h : Handle) (k : NoticeKind) (s : State) : (s.postIf c h k).holds = s.holds := by cases c <;> simp [State.postIf]
@[simp] theorem State.postIf_sweep (c : Bool) (h : Handle) (k : NoticeKind) (s : State) : (s.postIf c h k).sweep = s.sweep := by cases c <;> simp [State.postIf]
@[simp] theorem State.postIf_sweepOwed (c : Bool) (h : Handle) (k : NoticeKind) (s : State) : (s.postIf c h k).sweepOwed = s.sweepOwed := by cases c <;> simp [State.postIf]
@[simp] theorem State.postIf_purge (c : Bool) (h : Handle) (k : NoticeKind) (s : State) : (s.postIf c h k).purge = s.purge := by cases c <;> simp [State.postIf]
@[simp] theorem State.postIf_arb (c : Bool) (h : Handle) (k : NoticeKind) (s : State) : (s.postIf c h k).arb = s.arb := by cases c <;> simp [State.postIf]
@[simp] theorem State.postIf_lines (c : Bool) (h : Handle) (k : NoticeKind) (s : State) : (s.postIf c h k).lines = s.lines := by cases c <;> simp [State.postIf]
@[simp] theorem State.postIf_tick (c : Bool) (h : Handle) (k : NoticeKind) (s : State) : (s.postIf c h k).tick = s.tick := by cases c <;> simp [State.postIf]
@[simp] theorem State.postIf_prescale (c : Bool) (h : Handle) (k : NoticeKind) (s : State) : (s.postIf c h k).prescale = s.prescale := by cases c <;> simp [State.postIf]
@[simp] theorem State.postIf_tickPeriod (c : Bool) (h : Handle) (k : NoticeKind) (s : State) : (s.postIf c h k).tickPeriod = s.tickPeriod := by cases c <;> simp [State.postIf]
@[simp] theorem State.postIf_learnedExpiry (c : Bool) (h : Handle) (k : NoticeKind) (s : State) : (s.postIf c h k).learnedExpiry = s.learnedExpiry := by cases c <;> simp [State.postIf]
@[simp] theorem State.postIf_threshold (c : Bool) (h : Handle) (k : NoticeKind) (s : State) : (s.postIf c h k).threshold = s.threshold := by cases c <;> simp [State.postIf]
@[simp] theorem State.postIf_holdOff (c : Bool) (h : Handle) (k : NoticeKind) (s : State) : (s.postIf c h k).holdOff = s.holdOff := by cases c <;> simp [State.postIf]
@[simp] theorem State.postIf_routes (c : Bool) (h : Handle) (k : NoticeKind) (s : State) : (s.postIf c h k).routes = s.routes := by cases c <;> simp [State.postIf]
@[simp] theorem State.postIf_capture (c : Bool) (h : Handle) (k : NoticeKind) (s : State) : (s.postIf c h k).capture = s.capture := by cases c <;> simp [State.postIf]
@[simp] theorem State.postIf_slot (c : Bool) (h : Handle) (k : NoticeKind) (s : State) : (s.postIf c h k).slot = s.slot := by cases c <;> simp [State.postIf]
@[simp] theorem State.postIf_refused (c : Bool) (h : Handle) (k : NoticeKind) (s : State) : (s.postIf c h k).refused = s.refused := by cases c <;> simp [State.postIf]
@[simp] theorem State.postIf_miso (c : Bool) (h : Handle) (k : NoticeKind) (s : State) : (s.postIf c h k).miso = s.miso := by cases c <;> simp [State.postIf]
@[simp] theorem State.postIf_freeCount (c : Bool) (h : Handle) (k : NoticeKind) (s : State) : (s.postIf c h k).freeCount = s.freeCount := by cases c <;> simp [State.postIf]
@[simp] theorem State.postIf_pending (c : Bool) (h : Handle) (k : NoticeKind) (s : State) : (s.postIf c h k).pending = s.pending := by cases c <;> simp [State.postIf]

@[simp] theorem State.dropHold_resetHeld (i : Nat) (s : State) : (s.dropHold i).resetHeld = s.resetHeld := rfl
@[simp] theorem State.dropHold_mode (i : Nat) (s : State) : (s.dropHold i).mode = s.mode := rfl
@[simp] theorem State.dropHold_target (i : Nat) (s : State) : (s.dropHold i).target = s.target := rfl
@[simp] theorem State.dropHold_origin (i : Nat) (s : State) : (s.dropHold i).origin = s.origin := rfl
@[simp] theorem State.dropHold_transition (i : Nat) (s : State) : (s.dropHold i).transition = s.transition := rfl
@[simp] theorem State.dropHold_startup (i : Nat) (s : State) : (s.dropHold i).startup = s.startup := rfl
@[simp] theorem State.dropHold_layout (i : Nat) (s : State) : (s.dropHold i).layout = s.layout := rfl
@[simp] theorem State.dropHold_victim (i : Nat) (s : State) : (s.dropHold i).victim = s.victim := rfl
@[simp] theorem State.dropHold_active (i : Nat) (s : State) : (s.dropHold i).active = s.active := rfl
@[simp] theorem State.dropHold_staged (i : Nat) (s : State) : (s.dropHold i).staged = s.staged := rfl
@[simp] theorem State.dropHold_commitRequested (i : Nat) (s : State) : (s.dropHold i).commitRequested = s.commitRequested := rfl
@[simp] theorem State.dropHold_sweep (i : Nat) (s : State) : (s.dropHold i).sweep = s.sweep := rfl
@[simp] theorem State.dropHold_sweepOwed (i : Nat) (s : State) : (s.dropHold i).sweepOwed = s.sweepOwed := rfl
@[simp] theorem State.dropHold_purge (i : Nat) (s : State) : (s.dropHold i).purge = s.purge := rfl
@[simp] theorem State.dropHold_arb (i : Nat) (s : State) : (s.dropHold i).arb = s.arb := rfl
@[simp] theorem State.dropHold_lines (i : Nat) (s : State) : (s.dropHold i).lines = s.lines := rfl
@[simp] theorem State.dropHold_tick (i : Nat) (s : State) : (s.dropHold i).tick = s.tick := rfl
@[simp] theorem State.dropHold_prescale (i : Nat) (s : State) : (s.dropHold i).prescale = s.prescale := rfl
@[simp] theorem State.dropHold_tickPeriod (i : Nat) (s : State) : (s.dropHold i).tickPeriod = s.tickPeriod := rfl
@[simp] theorem State.dropHold_learnedExpiry (i : Nat) (s : State) : (s.dropHold i).learnedExpiry = s.learnedExpiry := rfl
@[simp] theorem State.dropHold_notices (i : Nat) (s : State) : (s.dropHold i).notices = s.notices := rfl
@[simp] theorem State.dropHold_threshold (i : Nat) (s : State) : (s.dropHold i).threshold = s.threshold := rfl
@[simp] theorem State.dropHold_holdOff (i : Nat) (s : State) : (s.dropHold i).holdOff = s.holdOff := rfl
@[simp] theorem State.dropHold_conditions (i : Nat) (s : State) : (s.dropHold i).conditions = s.conditions := rfl
@[simp] theorem State.dropHold_routes (i : Nat) (s : State) : (s.dropHold i).routes = s.routes := rfl
@[simp] theorem State.dropHold_capture (i : Nat) (s : State) : (s.dropHold i).capture = s.capture := rfl
@[simp] theorem State.dropHold_slot (i : Nat) (s : State) : (s.dropHold i).slot = s.slot := rfl
@[simp] theorem State.dropHold_refused (i : Nat) (s : State) : (s.dropHold i).refused = s.refused := rfl
@[simp] theorem State.dropHold_miso (i : Nat) (s : State) : (s.dropHold i).miso = s.miso := rfl
@[simp] theorem State.dropHold_freeCount (i : Nat) (s : State) : (s.dropHold i).freeCount = s.freeCount := rfl
@[simp] theorem State.dropHold_pending (i : Nat) (s : State) : (s.dropHold i).pending = s.pending := rfl

@[simp] theorem State.dropPublish_resetHeld (h : Handle) (s : State) : (s.dropPublish h).resetHeld = s.resetHeld := rfl
@[simp] theorem State.dropPublish_mode (h : Handle) (s : State) : (s.dropPublish h).mode = s.mode := rfl
@[simp] theorem State.dropPublish_target (h : Handle) (s : State) : (s.dropPublish h).target = s.target := rfl
@[simp] theorem State.dropPublish_origin (h : Handle) (s : State) : (s.dropPublish h).origin = s.origin := rfl
@[simp] theorem State.dropPublish_transition (h : Handle) (s : State) : (s.dropPublish h).transition = s.transition := rfl
@[simp] theorem State.dropPublish_startup (h : Handle) (s : State) : (s.dropPublish h).startup = s.startup := rfl
@[simp] theorem State.dropPublish_slots (h : Handle) (s : State) : (s.dropPublish h).slots = s.slots := rfl
@[simp] theorem State.dropPublish_layout (h : Handle) (s : State) : (s.dropPublish h).layout = s.layout := rfl
@[simp] theorem State.dropPublish_victim (h : Handle) (s : State) : (s.dropPublish h).victim = s.victim := rfl
@[simp] theorem State.dropPublish_active (h : Handle) (s : State) : (s.dropPublish h).active = s.active := rfl
@[simp] theorem State.dropPublish_staged (h : Handle) (s : State) : (s.dropPublish h).staged = s.staged := rfl
@[simp] theorem State.dropPublish_commitRequested (h : Handle) (s : State) : (s.dropPublish h).commitRequested = s.commitRequested := rfl
@[simp] theorem State.dropPublish_holds (h : Handle) (s : State) : (s.dropPublish h).holds = s.holds := rfl
@[simp] theorem State.dropPublish_sweep (h : Handle) (s : State) : (s.dropPublish h).sweep = s.sweep := rfl
@[simp] theorem State.dropPublish_sweepOwed (h : Handle) (s : State) : (s.dropPublish h).sweepOwed = s.sweepOwed := rfl
@[simp] theorem State.dropPublish_purge (h : Handle) (s : State) : (s.dropPublish h).purge = s.purge := rfl
@[simp] theorem State.dropPublish_arb (h : Handle) (s : State) : (s.dropPublish h).arb = s.arb := rfl
@[simp] theorem State.dropPublish_tick (h : Handle) (s : State) : (s.dropPublish h).tick = s.tick := rfl
@[simp] theorem State.dropPublish_prescale (h : Handle) (s : State) : (s.dropPublish h).prescale = s.prescale := rfl
@[simp] theorem State.dropPublish_tickPeriod (h : Handle) (s : State) : (s.dropPublish h).tickPeriod = s.tickPeriod := rfl
@[simp] theorem State.dropPublish_learnedExpiry (h : Handle) (s : State) : (s.dropPublish h).learnedExpiry = s.learnedExpiry := rfl
@[simp] theorem State.dropPublish_notices (h : Handle) (s : State) : (s.dropPublish h).notices = s.notices := rfl
@[simp] theorem State.dropPublish_threshold (h : Handle) (s : State) : (s.dropPublish h).threshold = s.threshold := rfl
@[simp] theorem State.dropPublish_holdOff (h : Handle) (s : State) : (s.dropPublish h).holdOff = s.holdOff := rfl
@[simp] theorem State.dropPublish_conditions (h : Handle) (s : State) : (s.dropPublish h).conditions = s.conditions := rfl
@[simp] theorem State.dropPublish_routes (h : Handle) (s : State) : (s.dropPublish h).routes = s.routes := rfl
@[simp] theorem State.dropPublish_capture (h : Handle) (s : State) : (s.dropPublish h).capture = s.capture := rfl
@[simp] theorem State.dropPublish_slot (h : Handle) (s : State) : (s.dropPublish h).slot = s.slot := rfl
@[simp] theorem State.dropPublish_refused (h : Handle) (s : State) : (s.dropPublish h).refused = s.refused := rfl
@[simp] theorem State.dropPublish_miso (h : Handle) (s : State) : (s.dropPublish h).miso = s.miso := rfl
@[simp] theorem State.dropPublish_freeCount (h : Handle) (s : State) : (s.dropPublish h).freeCount = s.freeCount := rfl
@[simp] theorem State.dropPublish_pending (h : Handle) (s : State) : (s.dropPublish h).pending = s.pending := rfl

@[simp] theorem State.retire_resetHeld (i : Nat) (s : State) : (s.retire i).resetHeld = s.resetHeld := rfl
@[simp] theorem State.retire_mode (i : Nat) (s : State) : (s.retire i).mode = s.mode := rfl
@[simp] theorem State.retire_target (i : Nat) (s : State) : (s.retire i).target = s.target := rfl
@[simp] theorem State.retire_origin (i : Nat) (s : State) : (s.retire i).origin = s.origin := rfl
@[simp] theorem State.retire_transition (i : Nat) (s : State) : (s.retire i).transition = s.transition := rfl
@[simp] theorem State.retire_startup (i : Nat) (s : State) : (s.retire i).startup = s.startup := rfl
@[simp] theorem State.retire_layout (i : Nat) (s : State) : (s.retire i).layout = s.layout := rfl
@[simp] theorem State.retire_victim (i : Nat) (s : State) : (s.retire i).victim = s.victim := rfl
@[simp] theorem State.retire_active (i : Nat) (s : State) : (s.retire i).active = s.active := rfl
@[simp] theorem State.retire_staged (i : Nat) (s : State) : (s.retire i).staged = s.staged := rfl
@[simp] theorem State.retire_commitRequested (i : Nat) (s : State) : (s.retire i).commitRequested = s.commitRequested := rfl
@[simp] theorem State.retire_sweep (i : Nat) (s : State) : (s.retire i).sweep = s.sweep := rfl
@[simp] theorem State.retire_sweepOwed (i : Nat) (s : State) : (s.retire i).sweepOwed = s.sweepOwed := rfl
@[simp] theorem State.retire_purge (i : Nat) (s : State) : (s.retire i).purge = s.purge := rfl
@[simp] theorem State.retire_arb (i : Nat) (s : State) : (s.retire i).arb = s.arb := rfl
@[simp] theorem State.retire_tick (i : Nat) (s : State) : (s.retire i).tick = s.tick := rfl
@[simp] theorem State.retire_prescale (i : Nat) (s : State) : (s.retire i).prescale = s.prescale := rfl
@[simp] theorem State.retire_tickPeriod (i : Nat) (s : State) : (s.retire i).tickPeriod = s.tickPeriod := rfl
@[simp] theorem State.retire_learnedExpiry (i : Nat) (s : State) : (s.retire i).learnedExpiry = s.learnedExpiry := rfl
@[simp] theorem State.retire_notices (i : Nat) (s : State) : (s.retire i).notices = s.notices := rfl
@[simp] theorem State.retire_threshold (i : Nat) (s : State) : (s.retire i).threshold = s.threshold := rfl
@[simp] theorem State.retire_holdOff (i : Nat) (s : State) : (s.retire i).holdOff = s.holdOff := rfl
@[simp] theorem State.retire_conditions (i : Nat) (s : State) : (s.retire i).conditions = s.conditions := rfl
@[simp] theorem State.retire_routes (i : Nat) (s : State) : (s.retire i).routes = s.routes := rfl
@[simp] theorem State.retire_capture (i : Nat) (s : State) : (s.retire i).capture = s.capture := rfl
@[simp] theorem State.retire_slot (i : Nat) (s : State) : (s.retire i).slot = s.slot := rfl
@[simp] theorem State.retire_refused (i : Nat) (s : State) : (s.retire i).refused = s.refused := rfl
@[simp] theorem State.retire_miso (i : Nat) (s : State) : (s.retire i).miso = s.miso := rfl
@[simp] theorem State.retire_freeCount (i : Nat) (s : State) : (s.retire i).freeCount = s.freeCount := rfl
@[simp] theorem State.retire_pending (i : Nat) (s : State) : (s.retire i).pending = s.pending := rfl

@[simp] theorem State.retireWith_resetHeld (k : NoticeKind) (i : Nat) (s : State) : (s.retireWith k i).resetHeld = s.resetHeld := by simp [State.retireWith]
@[simp] theorem State.retireWith_mode (k : NoticeKind) (i : Nat) (s : State) : (s.retireWith k i).mode = s.mode := by simp [State.retireWith]
@[simp] theorem State.retireWith_target (k : NoticeKind) (i : Nat) (s : State) : (s.retireWith k i).target = s.target := by simp [State.retireWith]
@[simp] theorem State.retireWith_origin (k : NoticeKind) (i : Nat) (s : State) : (s.retireWith k i).origin = s.origin := by simp [State.retireWith]
@[simp] theorem State.retireWith_transition (k : NoticeKind) (i : Nat) (s : State) : (s.retireWith k i).transition = s.transition := by simp [State.retireWith]
@[simp] theorem State.retireWith_startup (k : NoticeKind) (i : Nat) (s : State) : (s.retireWith k i).startup = s.startup := by simp [State.retireWith]
@[simp] theorem State.retireWith_layout (k : NoticeKind) (i : Nat) (s : State) : (s.retireWith k i).layout = s.layout := by simp [State.retireWith]
@[simp] theorem State.retireWith_victim (k : NoticeKind) (i : Nat) (s : State) : (s.retireWith k i).victim = s.victim := by simp [State.retireWith]
@[simp] theorem State.retireWith_active (k : NoticeKind) (i : Nat) (s : State) : (s.retireWith k i).active = s.active := by simp [State.retireWith]
@[simp] theorem State.retireWith_staged (k : NoticeKind) (i : Nat) (s : State) : (s.retireWith k i).staged = s.staged := by simp [State.retireWith]
@[simp] theorem State.retireWith_commitRequested (k : NoticeKind) (i : Nat) (s : State) : (s.retireWith k i).commitRequested = s.commitRequested := by simp [State.retireWith]
@[simp] theorem State.retireWith_sweep (k : NoticeKind) (i : Nat) (s : State) : (s.retireWith k i).sweep = s.sweep := by simp [State.retireWith]
@[simp] theorem State.retireWith_sweepOwed (k : NoticeKind) (i : Nat) (s : State) : (s.retireWith k i).sweepOwed = s.sweepOwed := by simp [State.retireWith]
@[simp] theorem State.retireWith_purge (k : NoticeKind) (i : Nat) (s : State) : (s.retireWith k i).purge = s.purge := by simp [State.retireWith]
@[simp] theorem State.retireWith_arb (k : NoticeKind) (i : Nat) (s : State) : (s.retireWith k i).arb = s.arb := by simp [State.retireWith]
@[simp] theorem State.retireWith_tick (k : NoticeKind) (i : Nat) (s : State) : (s.retireWith k i).tick = s.tick := by simp [State.retireWith]
@[simp] theorem State.retireWith_prescale (k : NoticeKind) (i : Nat) (s : State) : (s.retireWith k i).prescale = s.prescale := by simp [State.retireWith]
@[simp] theorem State.retireWith_tickPeriod (k : NoticeKind) (i : Nat) (s : State) : (s.retireWith k i).tickPeriod = s.tickPeriod := by simp [State.retireWith]
@[simp] theorem State.retireWith_learnedExpiry (k : NoticeKind) (i : Nat) (s : State) : (s.retireWith k i).learnedExpiry = s.learnedExpiry := by simp [State.retireWith]
@[simp] theorem State.retireWith_threshold (k : NoticeKind) (i : Nat) (s : State) : (s.retireWith k i).threshold = s.threshold := by simp [State.retireWith]
@[simp] theorem State.retireWith_holdOff (k : NoticeKind) (i : Nat) (s : State) : (s.retireWith k i).holdOff = s.holdOff := by simp [State.retireWith]
@[simp] theorem State.retireWith_routes (k : NoticeKind) (i : Nat) (s : State) : (s.retireWith k i).routes = s.routes := by simp [State.retireWith]
@[simp] theorem State.retireWith_capture (k : NoticeKind) (i : Nat) (s : State) : (s.retireWith k i).capture = s.capture := by simp [State.retireWith]
@[simp] theorem State.retireWith_slot (k : NoticeKind) (i : Nat) (s : State) : (s.retireWith k i).slot = s.slot := by simp [State.retireWith]
@[simp] theorem State.retireWith_refused (k : NoticeKind) (i : Nat) (s : State) : (s.retireWith k i).refused = s.refused := by simp [State.retireWith]
@[simp] theorem State.retireWith_miso (k : NoticeKind) (i : Nat) (s : State) : (s.retireWith k i).miso = s.miso := by simp [State.retireWith]
@[simp] theorem State.retireWith_freeCount (k : NoticeKind) (i : Nat) (s : State) : (s.retireWith k i).freeCount = s.freeCount := by simp [State.retireWith]
@[simp] theorem State.retireWith_pending (k : NoticeKind) (i : Nat) (s : State) : (s.retireWith k i).pending = s.pending := by simp [State.retireWith]

@[simp] theorem State.makeFaulted_resetHeld (q : FaultSource) (i : Nat) (s : State) : (s.makeFaulted q i).resetHeld = s.resetHeld := by simp [State.makeFaulted]
@[simp] theorem State.makeFaulted_mode (q : FaultSource) (i : Nat) (s : State) : (s.makeFaulted q i).mode = s.mode := by simp [State.makeFaulted]
@[simp] theorem State.makeFaulted_target (q : FaultSource) (i : Nat) (s : State) : (s.makeFaulted q i).target = s.target := by simp [State.makeFaulted]
@[simp] theorem State.makeFaulted_origin (q : FaultSource) (i : Nat) (s : State) : (s.makeFaulted q i).origin = s.origin := by simp [State.makeFaulted]
@[simp] theorem State.makeFaulted_transition (q : FaultSource) (i : Nat) (s : State) : (s.makeFaulted q i).transition = s.transition := by simp [State.makeFaulted]
@[simp] theorem State.makeFaulted_startup (q : FaultSource) (i : Nat) (s : State) : (s.makeFaulted q i).startup = s.startup := by simp [State.makeFaulted]
@[simp] theorem State.makeFaulted_layout (q : FaultSource) (i : Nat) (s : State) : (s.makeFaulted q i).layout = s.layout := by simp [State.makeFaulted]
@[simp] theorem State.makeFaulted_victim (q : FaultSource) (i : Nat) (s : State) : (s.makeFaulted q i).victim = s.victim := by simp [State.makeFaulted]
@[simp] theorem State.makeFaulted_active (q : FaultSource) (i : Nat) (s : State) : (s.makeFaulted q i).active = s.active := by simp [State.makeFaulted]
@[simp] theorem State.makeFaulted_staged (q : FaultSource) (i : Nat) (s : State) : (s.makeFaulted q i).staged = s.staged := by simp [State.makeFaulted]
@[simp] theorem State.makeFaulted_commitRequested (q : FaultSource) (i : Nat) (s : State) : (s.makeFaulted q i).commitRequested = s.commitRequested := by simp [State.makeFaulted]
@[simp] theorem State.makeFaulted_sweep (q : FaultSource) (i : Nat) (s : State) : (s.makeFaulted q i).sweep = s.sweep := by simp [State.makeFaulted]
@[simp] theorem State.makeFaulted_sweepOwed (q : FaultSource) (i : Nat) (s : State) : (s.makeFaulted q i).sweepOwed = s.sweepOwed := by simp [State.makeFaulted]
@[simp] theorem State.makeFaulted_purge (q : FaultSource) (i : Nat) (s : State) : (s.makeFaulted q i).purge = s.purge := by simp [State.makeFaulted]
@[simp] theorem State.makeFaulted_arb (q : FaultSource) (i : Nat) (s : State) : (s.makeFaulted q i).arb = s.arb := by simp [State.makeFaulted]
@[simp] theorem State.makeFaulted_tick (q : FaultSource) (i : Nat) (s : State) : (s.makeFaulted q i).tick = s.tick := by simp [State.makeFaulted]
@[simp] theorem State.makeFaulted_prescale (q : FaultSource) (i : Nat) (s : State) : (s.makeFaulted q i).prescale = s.prescale := by simp [State.makeFaulted]
@[simp] theorem State.makeFaulted_tickPeriod (q : FaultSource) (i : Nat) (s : State) : (s.makeFaulted q i).tickPeriod = s.tickPeriod := by simp [State.makeFaulted]
@[simp] theorem State.makeFaulted_learnedExpiry (q : FaultSource) (i : Nat) (s : State) : (s.makeFaulted q i).learnedExpiry = s.learnedExpiry := by simp [State.makeFaulted]
@[simp] theorem State.makeFaulted_threshold (q : FaultSource) (i : Nat) (s : State) : (s.makeFaulted q i).threshold = s.threshold := by simp [State.makeFaulted]
@[simp] theorem State.makeFaulted_holdOff (q : FaultSource) (i : Nat) (s : State) : (s.makeFaulted q i).holdOff = s.holdOff := by simp [State.makeFaulted]
@[simp] theorem State.makeFaulted_routes (q : FaultSource) (i : Nat) (s : State) : (s.makeFaulted q i).routes = s.routes := by simp [State.makeFaulted]
@[simp] theorem State.makeFaulted_slot (q : FaultSource) (i : Nat) (s : State) : (s.makeFaulted q i).slot = s.slot := by simp [State.makeFaulted]
@[simp] theorem State.makeFaulted_refused (q : FaultSource) (i : Nat) (s : State) : (s.makeFaulted q i).refused = s.refused := by simp [State.makeFaulted]
@[simp] theorem State.makeFaulted_miso (q : FaultSource) (i : Nat) (s : State) : (s.makeFaulted q i).miso = s.miso := by simp [State.makeFaulted]
@[simp] theorem State.makeFaulted_freeCount (q : FaultSource) (i : Nat) (s : State) : (s.makeFaulted q i).freeCount = s.freeCount := by simp [State.makeFaulted]
@[simp] theorem State.makeFaulted_pending (q : FaultSource) (i : Nat) (s : State) : (s.makeFaulted q i).pending = s.pending := by simp [State.makeFaulted]

@[simp] theorem State.checkBody_resetHeld (q : FaultSource) (i : Nat) (s : State) : (s.checkBody q i).resetHeld = s.resetHeld := by
  unfold State.checkBody; repeat' split
  all_goals simp
@[simp] theorem State.checkBody_mode (q : FaultSource) (i : Nat) (s : State) : (s.checkBody q i).mode = s.mode := by
  unfold State.checkBody; repeat' split
  all_goals simp
@[simp] theorem State.checkBody_target (q : FaultSource) (i : Nat) (s : State) : (s.checkBody q i).target = s.target := by
  unfold State.checkBody; repeat' split
  all_goals simp
@[simp] theorem State.checkBody_origin (q : FaultSource) (i : Nat) (s : State) : (s.checkBody q i).origin = s.origin := by
  unfold State.checkBody; repeat' split
  all_goals simp
@[simp] theorem State.checkBody_transition (q : FaultSource) (i : Nat) (s : State) : (s.checkBody q i).transition = s.transition := by
  unfold State.checkBody; repeat' split
  all_goals simp
@[simp] theorem State.checkBody_startup (q : FaultSource) (i : Nat) (s : State) : (s.checkBody q i).startup = s.startup := by
  unfold State.checkBody; repeat' split
  all_goals simp
@[simp] theorem State.checkBody_layout (q : FaultSource) (i : Nat) (s : State) : (s.checkBody q i).layout = s.layout := by
  unfold State.checkBody; repeat' split
  all_goals simp
@[simp] theorem State.checkBody_victim (q : FaultSource) (i : Nat) (s : State) : (s.checkBody q i).victim = s.victim := by
  unfold State.checkBody; repeat' split
  all_goals simp
@[simp] theorem State.checkBody_active (q : FaultSource) (i : Nat) (s : State) : (s.checkBody q i).active = s.active := by
  unfold State.checkBody; repeat' split
  all_goals simp
@[simp] theorem State.checkBody_staged (q : FaultSource) (i : Nat) (s : State) : (s.checkBody q i).staged = s.staged := by
  unfold State.checkBody; repeat' split
  all_goals simp
@[simp] theorem State.checkBody_commitRequested (q : FaultSource) (i : Nat) (s : State) : (s.checkBody q i).commitRequested = s.commitRequested := by
  unfold State.checkBody; repeat' split
  all_goals simp
@[simp] theorem State.checkBody_sweep (q : FaultSource) (i : Nat) (s : State) : (s.checkBody q i).sweep = s.sweep := by
  unfold State.checkBody; repeat' split
  all_goals simp
@[simp] theorem State.checkBody_sweepOwed (q : FaultSource) (i : Nat) (s : State) : (s.checkBody q i).sweepOwed = s.sweepOwed := by
  unfold State.checkBody; repeat' split
  all_goals simp
@[simp] theorem State.checkBody_purge (q : FaultSource) (i : Nat) (s : State) : (s.checkBody q i).purge = s.purge := by
  unfold State.checkBody; repeat' split
  all_goals simp
@[simp] theorem State.checkBody_arb (q : FaultSource) (i : Nat) (s : State) : (s.checkBody q i).arb = s.arb := by
  unfold State.checkBody; repeat' split
  all_goals simp
@[simp] theorem State.checkBody_tick (q : FaultSource) (i : Nat) (s : State) : (s.checkBody q i).tick = s.tick := by
  unfold State.checkBody; repeat' split
  all_goals simp
@[simp] theorem State.checkBody_prescale (q : FaultSource) (i : Nat) (s : State) : (s.checkBody q i).prescale = s.prescale := by
  unfold State.checkBody; repeat' split
  all_goals simp
@[simp] theorem State.checkBody_tickPeriod (q : FaultSource) (i : Nat) (s : State) : (s.checkBody q i).tickPeriod = s.tickPeriod := by
  unfold State.checkBody; repeat' split
  all_goals simp
@[simp] theorem State.checkBody_learnedExpiry (q : FaultSource) (i : Nat) (s : State) : (s.checkBody q i).learnedExpiry = s.learnedExpiry := by
  unfold State.checkBody; repeat' split
  all_goals simp
@[simp] theorem State.checkBody_threshold (q : FaultSource) (i : Nat) (s : State) : (s.checkBody q i).threshold = s.threshold := by
  unfold State.checkBody; repeat' split
  all_goals simp
@[simp] theorem State.checkBody_holdOff (q : FaultSource) (i : Nat) (s : State) : (s.checkBody q i).holdOff = s.holdOff := by
  unfold State.checkBody; repeat' split
  all_goals simp
@[simp] theorem State.checkBody_routes (q : FaultSource) (i : Nat) (s : State) : (s.checkBody q i).routes = s.routes := by
  unfold State.checkBody; repeat' split
  all_goals simp
@[simp] theorem State.checkBody_slot (q : FaultSource) (i : Nat) (s : State) : (s.checkBody q i).slot = s.slot := by
  unfold State.checkBody; repeat' split
  all_goals simp
@[simp] theorem State.checkBody_refused (q : FaultSource) (i : Nat) (s : State) : (s.checkBody q i).refused = s.refused := by
  unfold State.checkBody; repeat' split
  all_goals simp
@[simp] theorem State.checkBody_miso (q : FaultSource) (i : Nat) (s : State) : (s.checkBody q i).miso = s.miso := by
  unfold State.checkBody; repeat' split
  all_goals simp
@[simp] theorem State.checkBody_freeCount (q : FaultSource) (i : Nat) (s : State) : (s.checkBody q i).freeCount = s.freeCount := by
  unfold State.checkBody; repeat' split
  all_goals simp
@[simp] theorem State.checkBody_pending (q : FaultSource) (i : Nat) (s : State) : (s.checkBody q i).pending = s.pending := by
  unfold State.checkBody; repeat' split
  all_goals simp

@[simp] theorem State.applyUpdate_resetHeld (i : Nat) (v : List Byte) (a : Byte) (m : Tick) (s : State) : (s.applyUpdate i v a m).resetHeld = s.resetHeld := by simp [State.applyUpdate]
@[simp] theorem State.applyUpdate_mode (i : Nat) (v : List Byte) (a : Byte) (m : Tick) (s : State) : (s.applyUpdate i v a m).mode = s.mode := by simp [State.applyUpdate]
@[simp] theorem State.applyUpdate_target (i : Nat) (v : List Byte) (a : Byte) (m : Tick) (s : State) : (s.applyUpdate i v a m).target = s.target := by simp [State.applyUpdate]
@[simp] theorem State.applyUpdate_origin (i : Nat) (v : List Byte) (a : Byte) (m : Tick) (s : State) : (s.applyUpdate i v a m).origin = s.origin := by simp [State.applyUpdate]
@[simp] theorem State.applyUpdate_transition (i : Nat) (v : List Byte) (a : Byte) (m : Tick) (s : State) : (s.applyUpdate i v a m).transition = s.transition := by simp [State.applyUpdate]
@[simp] theorem State.applyUpdate_startup (i : Nat) (v : List Byte) (a : Byte) (m : Tick) (s : State) : (s.applyUpdate i v a m).startup = s.startup := by simp [State.applyUpdate]
@[simp] theorem State.applyUpdate_layout (i : Nat) (v : List Byte) (a : Byte) (m : Tick) (s : State) : (s.applyUpdate i v a m).layout = s.layout := by simp [State.applyUpdate]
@[simp] theorem State.applyUpdate_victim (i : Nat) (v : List Byte) (a : Byte) (m : Tick) (s : State) : (s.applyUpdate i v a m).victim = s.victim := by simp [State.applyUpdate]
@[simp] theorem State.applyUpdate_active (i : Nat) (v : List Byte) (a : Byte) (m : Tick) (s : State) : (s.applyUpdate i v a m).active = s.active := by simp [State.applyUpdate]
@[simp] theorem State.applyUpdate_staged (i : Nat) (v : List Byte) (a : Byte) (m : Tick) (s : State) : (s.applyUpdate i v a m).staged = s.staged := by simp [State.applyUpdate]
@[simp] theorem State.applyUpdate_commitRequested (i : Nat) (v : List Byte) (a : Byte) (m : Tick) (s : State) : (s.applyUpdate i v a m).commitRequested = s.commitRequested := by simp [State.applyUpdate]
@[simp] theorem State.applyUpdate_holds (i : Nat) (v : List Byte) (a : Byte) (m : Tick) (s : State) : (s.applyUpdate i v a m).holds = s.holds := by simp [State.applyUpdate]
@[simp] theorem State.applyUpdate_sweep (i : Nat) (v : List Byte) (a : Byte) (m : Tick) (s : State) : (s.applyUpdate i v a m).sweep = s.sweep := by simp [State.applyUpdate]
@[simp] theorem State.applyUpdate_sweepOwed (i : Nat) (v : List Byte) (a : Byte) (m : Tick) (s : State) : (s.applyUpdate i v a m).sweepOwed = s.sweepOwed := by simp [State.applyUpdate]
@[simp] theorem State.applyUpdate_purge (i : Nat) (v : List Byte) (a : Byte) (m : Tick) (s : State) : (s.applyUpdate i v a m).purge = s.purge := by simp [State.applyUpdate]
@[simp] theorem State.applyUpdate_arb (i : Nat) (v : List Byte) (a : Byte) (m : Tick) (s : State) : (s.applyUpdate i v a m).arb = s.arb := by simp [State.applyUpdate]
@[simp] theorem State.applyUpdate_lines (i : Nat) (v : List Byte) (a : Byte) (m : Tick) (s : State) : (s.applyUpdate i v a m).lines = s.lines := by simp [State.applyUpdate]
@[simp] theorem State.applyUpdate_tick (i : Nat) (v : List Byte) (a : Byte) (m : Tick) (s : State) : (s.applyUpdate i v a m).tick = s.tick := by simp [State.applyUpdate]
@[simp] theorem State.applyUpdate_prescale (i : Nat) (v : List Byte) (a : Byte) (m : Tick) (s : State) : (s.applyUpdate i v a m).prescale = s.prescale := by simp [State.applyUpdate]
@[simp] theorem State.applyUpdate_tickPeriod (i : Nat) (v : List Byte) (a : Byte) (m : Tick) (s : State) : (s.applyUpdate i v a m).tickPeriod = s.tickPeriod := by simp [State.applyUpdate]
@[simp] theorem State.applyUpdate_learnedExpiry (i : Nat) (v : List Byte) (a : Byte) (m : Tick) (s : State) : (s.applyUpdate i v a m).learnedExpiry = s.learnedExpiry := by simp [State.applyUpdate]
@[simp] theorem State.applyUpdate_threshold (i : Nat) (v : List Byte) (a : Byte) (m : Tick) (s : State) : (s.applyUpdate i v a m).threshold = s.threshold := by simp [State.applyUpdate]
@[simp] theorem State.applyUpdate_holdOff (i : Nat) (v : List Byte) (a : Byte) (m : Tick) (s : State) : (s.applyUpdate i v a m).holdOff = s.holdOff := by simp [State.applyUpdate]
@[simp] theorem State.applyUpdate_routes (i : Nat) (v : List Byte) (a : Byte) (m : Tick) (s : State) : (s.applyUpdate i v a m).routes = s.routes := by simp [State.applyUpdate]
@[simp] theorem State.applyUpdate_capture (i : Nat) (v : List Byte) (a : Byte) (m : Tick) (s : State) : (s.applyUpdate i v a m).capture = s.capture := by simp [State.applyUpdate]
@[simp] theorem State.applyUpdate_slot (i : Nat) (v : List Byte) (a : Byte) (m : Tick) (s : State) : (s.applyUpdate i v a m).slot = s.slot := by simp [State.applyUpdate]
@[simp] theorem State.applyUpdate_refused (i : Nat) (v : List Byte) (a : Byte) (m : Tick) (s : State) : (s.applyUpdate i v a m).refused = s.refused := by simp [State.applyUpdate]
@[simp] theorem State.applyUpdate_miso (i : Nat) (v : List Byte) (a : Byte) (m : Tick) (s : State) : (s.applyUpdate i v a m).miso = s.miso := by simp [State.applyUpdate]
@[simp] theorem State.applyUpdate_freeCount (i : Nat) (v : List Byte) (a : Byte) (m : Tick) (s : State) : (s.applyUpdate i v a m).freeCount = s.freeCount := by simp [State.applyUpdate]
@[simp] theorem State.applyUpdate_pending (i : Nat) (v : List Byte) (a : Byte) (m : Tick) (s : State) : (s.applyUpdate i v a m).pending = s.pending := by simp [State.applyUpdate]

@[simp] theorem State.applyPending_resetHeld (i : Nat) (u : Option PendingUpdate) (s : State) : (s.applyPending i u).resetHeld = s.resetHeld := by cases u <;> simp [State.applyPending]
@[simp] theorem State.applyPending_mode (i : Nat) (u : Option PendingUpdate) (s : State) : (s.applyPending i u).mode = s.mode := by cases u <;> simp [State.applyPending]
@[simp] theorem State.applyPending_target (i : Nat) (u : Option PendingUpdate) (s : State) : (s.applyPending i u).target = s.target := by cases u <;> simp [State.applyPending]
@[simp] theorem State.applyPending_origin (i : Nat) (u : Option PendingUpdate) (s : State) : (s.applyPending i u).origin = s.origin := by cases u <;> simp [State.applyPending]
@[simp] theorem State.applyPending_transition (i : Nat) (u : Option PendingUpdate) (s : State) : (s.applyPending i u).transition = s.transition := by cases u <;> simp [State.applyPending]
@[simp] theorem State.applyPending_startup (i : Nat) (u : Option PendingUpdate) (s : State) : (s.applyPending i u).startup = s.startup := by cases u <;> simp [State.applyPending]
@[simp] theorem State.applyPending_layout (i : Nat) (u : Option PendingUpdate) (s : State) : (s.applyPending i u).layout = s.layout := by cases u <;> simp [State.applyPending]
@[simp] theorem State.applyPending_victim (i : Nat) (u : Option PendingUpdate) (s : State) : (s.applyPending i u).victim = s.victim := by cases u <;> simp [State.applyPending]
@[simp] theorem State.applyPending_active (i : Nat) (u : Option PendingUpdate) (s : State) : (s.applyPending i u).active = s.active := by cases u <;> simp [State.applyPending]
@[simp] theorem State.applyPending_staged (i : Nat) (u : Option PendingUpdate) (s : State) : (s.applyPending i u).staged = s.staged := by cases u <;> simp [State.applyPending]
@[simp] theorem State.applyPending_commitRequested (i : Nat) (u : Option PendingUpdate) (s : State) : (s.applyPending i u).commitRequested = s.commitRequested := by cases u <;> simp [State.applyPending]
@[simp] theorem State.applyPending_holds (i : Nat) (u : Option PendingUpdate) (s : State) : (s.applyPending i u).holds = s.holds := by cases u <;> simp [State.applyPending]
@[simp] theorem State.applyPending_sweep (i : Nat) (u : Option PendingUpdate) (s : State) : (s.applyPending i u).sweep = s.sweep := by cases u <;> simp [State.applyPending]
@[simp] theorem State.applyPending_sweepOwed (i : Nat) (u : Option PendingUpdate) (s : State) : (s.applyPending i u).sweepOwed = s.sweepOwed := by cases u <;> simp [State.applyPending]
@[simp] theorem State.applyPending_purge (i : Nat) (u : Option PendingUpdate) (s : State) : (s.applyPending i u).purge = s.purge := by cases u <;> simp [State.applyPending]
@[simp] theorem State.applyPending_arb (i : Nat) (u : Option PendingUpdate) (s : State) : (s.applyPending i u).arb = s.arb := by cases u <;> simp [State.applyPending]
@[simp] theorem State.applyPending_lines (i : Nat) (u : Option PendingUpdate) (s : State) : (s.applyPending i u).lines = s.lines := by cases u <;> simp [State.applyPending]
@[simp] theorem State.applyPending_tick (i : Nat) (u : Option PendingUpdate) (s : State) : (s.applyPending i u).tick = s.tick := by cases u <;> simp [State.applyPending]
@[simp] theorem State.applyPending_prescale (i : Nat) (u : Option PendingUpdate) (s : State) : (s.applyPending i u).prescale = s.prescale := by cases u <;> simp [State.applyPending]
@[simp] theorem State.applyPending_tickPeriod (i : Nat) (u : Option PendingUpdate) (s : State) : (s.applyPending i u).tickPeriod = s.tickPeriod := by cases u <;> simp [State.applyPending]
@[simp] theorem State.applyPending_learnedExpiry (i : Nat) (u : Option PendingUpdate) (s : State) : (s.applyPending i u).learnedExpiry = s.learnedExpiry := by cases u <;> simp [State.applyPending]
@[simp] theorem State.applyPending_threshold (i : Nat) (u : Option PendingUpdate) (s : State) : (s.applyPending i u).threshold = s.threshold := by cases u <;> simp [State.applyPending]
@[simp] theorem State.applyPending_holdOff (i : Nat) (u : Option PendingUpdate) (s : State) : (s.applyPending i u).holdOff = s.holdOff := by cases u <;> simp [State.applyPending]
@[simp] theorem State.applyPending_routes (i : Nat) (u : Option PendingUpdate) (s : State) : (s.applyPending i u).routes = s.routes := by cases u <;> simp [State.applyPending]
@[simp] theorem State.applyPending_capture (i : Nat) (u : Option PendingUpdate) (s : State) : (s.applyPending i u).capture = s.capture := by cases u <;> simp [State.applyPending]
@[simp] theorem State.applyPending_slot (i : Nat) (u : Option PendingUpdate) (s : State) : (s.applyPending i u).slot = s.slot := by cases u <;> simp [State.applyPending]
@[simp] theorem State.applyPending_refused (i : Nat) (u : Option PendingUpdate) (s : State) : (s.applyPending i u).refused = s.refused := by cases u <;> simp [State.applyPending]
@[simp] theorem State.applyPending_miso (i : Nat) (u : Option PendingUpdate) (s : State) : (s.applyPending i u).miso = s.miso := by cases u <;> simp [State.applyPending]
@[simp] theorem State.applyPending_freeCount (i : Nat) (u : Option PendingUpdate) (s : State) : (s.applyPending i u).freeCount = s.freeCount := by cases u <;> simp [State.applyPending]
@[simp] theorem State.applyPending_pending (i : Nat) (u : Option PendingUpdate) (s : State) : (s.applyPending i u).pending = s.pending := by cases u <;> simp [State.applyPending]

@[simp] theorem State.publish_resetHeld (i : Nat) (s : State) : (s.publish i).resetHeld = s.resetHeld := rfl
@[simp] theorem State.publish_mode (i : Nat) (s : State) : (s.publish i).mode = s.mode := rfl
@[simp] theorem State.publish_target (i : Nat) (s : State) : (s.publish i).target = s.target := rfl
@[simp] theorem State.publish_origin (i : Nat) (s : State) : (s.publish i).origin = s.origin := rfl
@[simp] theorem State.publish_transition (i : Nat) (s : State) : (s.publish i).transition = s.transition := rfl
@[simp] theorem State.publish_startup (i : Nat) (s : State) : (s.publish i).startup = s.startup := rfl
@[simp] theorem State.publish_slots (i : Nat) (s : State) : (s.publish i).slots = s.slots := rfl
@[simp] theorem State.publish_layout (i : Nat) (s : State) : (s.publish i).layout = s.layout := rfl
@[simp] theorem State.publish_victim (i : Nat) (s : State) : (s.publish i).victim = s.victim := rfl
@[simp] theorem State.publish_active (i : Nat) (s : State) : (s.publish i).active = s.active := rfl
@[simp] theorem State.publish_staged (i : Nat) (s : State) : (s.publish i).staged = s.staged := rfl
@[simp] theorem State.publish_commitRequested (i : Nat) (s : State) : (s.publish i).commitRequested = s.commitRequested := rfl
@[simp] theorem State.publish_holds (i : Nat) (s : State) : (s.publish i).holds = s.holds := rfl
@[simp] theorem State.publish_sweep (i : Nat) (s : State) : (s.publish i).sweep = s.sweep := rfl
@[simp] theorem State.publish_sweepOwed (i : Nat) (s : State) : (s.publish i).sweepOwed = s.sweepOwed := rfl
@[simp] theorem State.publish_purge (i : Nat) (s : State) : (s.publish i).purge = s.purge := rfl
@[simp] theorem State.publish_arb (i : Nat) (s : State) : (s.publish i).arb = s.arb := rfl
@[simp] theorem State.publish_tick (i : Nat) (s : State) : (s.publish i).tick = s.tick := rfl
@[simp] theorem State.publish_prescale (i : Nat) (s : State) : (s.publish i).prescale = s.prescale := rfl
@[simp] theorem State.publish_tickPeriod (i : Nat) (s : State) : (s.publish i).tickPeriod = s.tickPeriod := rfl
@[simp] theorem State.publish_learnedExpiry (i : Nat) (s : State) : (s.publish i).learnedExpiry = s.learnedExpiry := rfl
@[simp] theorem State.publish_notices (i : Nat) (s : State) : (s.publish i).notices = s.notices := rfl
@[simp] theorem State.publish_threshold (i : Nat) (s : State) : (s.publish i).threshold = s.threshold := rfl
@[simp] theorem State.publish_holdOff (i : Nat) (s : State) : (s.publish i).holdOff = s.holdOff := rfl
@[simp] theorem State.publish_conditions (i : Nat) (s : State) : (s.publish i).conditions = s.conditions := rfl
@[simp] theorem State.publish_routes (i : Nat) (s : State) : (s.publish i).routes = s.routes := rfl
@[simp] theorem State.publish_capture (i : Nat) (s : State) : (s.publish i).capture = s.capture := rfl
@[simp] theorem State.publish_slot (i : Nat) (s : State) : (s.publish i).slot = s.slot := rfl
@[simp] theorem State.publish_refused (i : Nat) (s : State) : (s.publish i).refused = s.refused := rfl
@[simp] theorem State.publish_miso (i : Nat) (s : State) : (s.publish i).miso = s.miso := rfl
@[simp] theorem State.publish_freeCount (i : Nat) (s : State) : (s.publish i).freeCount = s.freeCount := rfl
@[simp] theorem State.publish_pending (i : Nat) (s : State) : (s.publish i).pending = s.pending := rfl

@[simp] theorem State.takeFrame_resetHeld (l : LineId) (r : List RxFrame) (s : State) : (s.takeFrame l r).resetHeld = s.resetHeld := rfl
@[simp] theorem State.takeFrame_mode (l : LineId) (r : List RxFrame) (s : State) : (s.takeFrame l r).mode = s.mode := rfl
@[simp] theorem State.takeFrame_target (l : LineId) (r : List RxFrame) (s : State) : (s.takeFrame l r).target = s.target := rfl
@[simp] theorem State.takeFrame_origin (l : LineId) (r : List RxFrame) (s : State) : (s.takeFrame l r).origin = s.origin := rfl
@[simp] theorem State.takeFrame_transition (l : LineId) (r : List RxFrame) (s : State) : (s.takeFrame l r).transition = s.transition := rfl
@[simp] theorem State.takeFrame_startup (l : LineId) (r : List RxFrame) (s : State) : (s.takeFrame l r).startup = s.startup := rfl
@[simp] theorem State.takeFrame_slots (l : LineId) (r : List RxFrame) (s : State) : (s.takeFrame l r).slots = s.slots := rfl
@[simp] theorem State.takeFrame_layout (l : LineId) (r : List RxFrame) (s : State) : (s.takeFrame l r).layout = s.layout := rfl
@[simp] theorem State.takeFrame_victim (l : LineId) (r : List RxFrame) (s : State) : (s.takeFrame l r).victim = s.victim := rfl
@[simp] theorem State.takeFrame_active (l : LineId) (r : List RxFrame) (s : State) : (s.takeFrame l r).active = s.active := rfl
@[simp] theorem State.takeFrame_staged (l : LineId) (r : List RxFrame) (s : State) : (s.takeFrame l r).staged = s.staged := rfl
@[simp] theorem State.takeFrame_commitRequested (l : LineId) (r : List RxFrame) (s : State) : (s.takeFrame l r).commitRequested = s.commitRequested := rfl
@[simp] theorem State.takeFrame_holds (l : LineId) (r : List RxFrame) (s : State) : (s.takeFrame l r).holds = s.holds := rfl
@[simp] theorem State.takeFrame_sweep (l : LineId) (r : List RxFrame) (s : State) : (s.takeFrame l r).sweep = s.sweep := rfl
@[simp] theorem State.takeFrame_sweepOwed (l : LineId) (r : List RxFrame) (s : State) : (s.takeFrame l r).sweepOwed = s.sweepOwed := rfl
@[simp] theorem State.takeFrame_purge (l : LineId) (r : List RxFrame) (s : State) : (s.takeFrame l r).purge = s.purge := rfl
@[simp] theorem State.takeFrame_tick (l : LineId) (r : List RxFrame) (s : State) : (s.takeFrame l r).tick = s.tick := rfl
@[simp] theorem State.takeFrame_prescale (l : LineId) (r : List RxFrame) (s : State) : (s.takeFrame l r).prescale = s.prescale := rfl
@[simp] theorem State.takeFrame_tickPeriod (l : LineId) (r : List RxFrame) (s : State) : (s.takeFrame l r).tickPeriod = s.tickPeriod := rfl
@[simp] theorem State.takeFrame_learnedExpiry (l : LineId) (r : List RxFrame) (s : State) : (s.takeFrame l r).learnedExpiry = s.learnedExpiry := rfl
@[simp] theorem State.takeFrame_notices (l : LineId) (r : List RxFrame) (s : State) : (s.takeFrame l r).notices = s.notices := rfl
@[simp] theorem State.takeFrame_threshold (l : LineId) (r : List RxFrame) (s : State) : (s.takeFrame l r).threshold = s.threshold := rfl
@[simp] theorem State.takeFrame_holdOff (l : LineId) (r : List RxFrame) (s : State) : (s.takeFrame l r).holdOff = s.holdOff := rfl
@[simp] theorem State.takeFrame_conditions (l : LineId) (r : List RxFrame) (s : State) : (s.takeFrame l r).conditions = s.conditions := rfl
@[simp] theorem State.takeFrame_routes (l : LineId) (r : List RxFrame) (s : State) : (s.takeFrame l r).routes = s.routes := rfl
@[simp] theorem State.takeFrame_capture (l : LineId) (r : List RxFrame) (s : State) : (s.takeFrame l r).capture = s.capture := rfl
@[simp] theorem State.takeFrame_slot (l : LineId) (r : List RxFrame) (s : State) : (s.takeFrame l r).slot = s.slot := rfl
@[simp] theorem State.takeFrame_refused (l : LineId) (r : List RxFrame) (s : State) : (s.takeFrame l r).refused = s.refused := rfl
@[simp] theorem State.takeFrame_miso (l : LineId) (r : List RxFrame) (s : State) : (s.takeFrame l r).miso = s.miso := rfl
@[simp] theorem State.takeFrame_freeCount (l : LineId) (r : List RxFrame) (s : State) : (s.takeFrame l r).freeCount = s.freeCount := rfl
@[simp] theorem State.takeFrame_pending (l : LineId) (r : List RxFrame) (s : State) : (s.takeFrame l r).pending = s.pending := rfl

end Sys2Proof.Machine
end

