-- ==== Sys2Proof/Laws/Ops.lean ====
section
/-! SUPPORT. What each shared operation can do, said once: its cases, and what a slot, a line or the notice queue reads after
it. With Laws/State.lean and Laws/Fields.lean the statements' proofs cite these and unfold no operation. -/

namespace Sys2Proof.Machine

/-! ## Events and host commands -/

theorem whilePowered_held (f : State → State) {s : State} (h : s.resetHeld = true) : whilePowered f s = .next s := by
  simp [whilePowered, h]

theorem whilePowered_released (f : State → State) {s : State} (h : s.resetHeld = false) : whilePowered f s = .next (f s) := by
  simp [whilePowered, h]

theorem State.portClosed_eq_false {s : State} : s.portClosed = false ↔ s.mode ≠ .starting ∧ s.slot.isPending = false := by
  simp [State.portClosed]

theorem State.portOpen_iff {s : State} : s.portOpen = true ↔ s.resetHeld = false ∧ s.portClosed = false := by
  simp [State.portOpen]

theorem State.servesHost_iff {s : State} :
    s.servesHost = true ↔ s.resetHeld = false ∧ s.portClosed = false ∧ inService s.mode = true := by
  simp [State.servesHost, State.portOpen_iff, and_assoc]

theorem State.engineFree_iff {s : State} : s.engineFree = true ↔ s.anyLineRequests = false ∧ s.sweep = none := by
  simp [State.engineFree]

/-- The state on which the block of a taken COMMAND acts: the bytes clocked out, and the refused bit clear. -/
def State.taken (argBytes : Nat) (s : State) : State := { s with miso := s.commandOut argBytes, refused := false }

@[simp] theorem State.taken_slotAt (n : Nat) (s : State) (i : Nat) : (s.taken n).slotAt i = s.slotAt i := rfl
@[simp] theorem State.taken_line (n : Nat) (s : State) (l : LineId) : (s.taken n).line l = s.line l := rfl
@[simp] theorem State.taken_mode (n : Nat) (s : State) : (s.taken n).mode = s.mode := rfl
@[simp] theorem State.taken_notices (n : Nat) (s : State) : (s.taken n).notices = s.notices := rfl
@[simp] theorem State.taken_transition (n : Nat) (s : State) : (s.taken n).transition = s.transition := rfl
@[simp] theorem State.taken_flowActs (n : Nat) (s : State) : (s.taken n).flowActs = s.flowActs := rfl
@[simp] theorem State.taken_lineActive (n : Nat) (s : State) (l : LineId) : (s.taken n).lineActive l = s.lineActive l := rfl

/-- Completing a taken command is the answer of its block. -/
theorem State.taken_complete (n : Nat) (code : ResultCode) (body : List Byte) (s : State) :
    (s.taken n).complete code body = s.answered n code body := rfl

/-- Everything a COMMAND can do before its own block acts: refused, WRONG_MODE, BAD_ARGUMENT, or run on the taken state. -/
theorem hostCommand_cases {α : Type} (n : Nat) (allowed : Mode → Bool) (args : Option α) (run : α → State → State) (s : State) :
    hostCommand n allowed args run s =
      if s.portClosed then { s with miso := s.commandOut n, refused := true }
      else if allowed s.mode then
        (match args with
          | none => s.answered n .badArgument []
          | some a => run a (s.taken n))
      else s.answered n .wrongMode [] := by
  unfold hostCommand
  split
  · rfl
  · cases args <;> rfl

theorem hostCommand_run {α : Type} (n : Nat) {allowed : Mode → Bool} (a : α) (run : α → State → State) {s : State}
    (hc : s.portClosed = false) (hm : allowed s.mode = true) :
    hostCommand n allowed (some a) run s = run a (s.taken n) := by
  simp [hostCommand_cases, hc, hm]

theorem hostCommand_badArgument {α : Type} (n : Nat) {allowed : Mode → Bool} (run : α → State → State) {s : State}
    (hc : s.portClosed = false) (hm : allowed s.mode = true) :
    hostCommand n allowed none run s = s.answered n .badArgument [] := by
  simp [hostCommand_cases, hc, hm]

theorem hostCommand_wrongMode {α : Type} (n : Nat) {allowed : Mode → Bool} (args : Option α) (run : α → State → State) {s : State}
    (hc : s.portClosed = false) (hm : allowed s.mode = false) :
    hostCommand n allowed args run s = s.answered n .wrongMode [] := by
  simp [hostCommand_cases, hc, hm]

theorem hostCommand_refused {α : Type} (n : Nat) (allowed : Mode → Bool) (args : Option α) (run : α → State → State) {s : State}
    (hc : s.portClosed = true) :
    hostCommand n allowed args run s = { s with miso := s.commandOut n, refused := true } := by
  simp [hostCommand_cases, hc]

/-- Whether a line requests the engine is read from the lines and the mode alone. -/
theorem State.anyLineRequests_congr {s t : State} (hl : s.lines = t.lines) (hm : s.mode = t.mode) :
    s.anyLineRequests = t.anyLineRequests := by
  simp [State.anyLineRequests, State.lineRequests, State.takesFrames, State.line, hl, hm]

/-- A table command with an idle engine is carried out at once, its run back at 0. -/
theorem requestEngine_free (c : HostCommand) {s : State} (h : s.engineFree = true) :
    requestEngine c s = State.tableOperation c { s with slot := .pending c, arb := { s.arb with run := 0 } } := by
  obtain ⟨hl, hs⟩ := State.engineFree_iff.1 h
  have hl' : ∀ t : State, t.lines = s.lines → t.mode = s.mode → t.anyLineRequests = false := fun t a b =>
    (State.anyLineRequests_congr a b).trans hl
  have hg : ∀ t : State, t.lines = s.lines → t.mode = s.mode → t.sweep = none →
      t.grantCommand = { t with arb := { t.arb with run := 0 } } := by
    intro t a b c
    simp [State.grantCommand, State.waitAfterOther, hl' t a b, c]
  unfold requestEngine
  dsimp only
  rw [if_neg (by rw [hl' { s with slot := .pending c } rfl rfl]; simp [hs]), hg { s with slot := .pending c } rfl rfl hs]

/-- A table command waits while a line or a sweep requests the engine. -/
theorem requestEngine_busy (c : HostCommand) {s : State} (h : s.engineFree = false) :
    requestEngine c s = { s with slot := .pending c } := by
  have : s.anyLineRequests = true ∨ s.sweep.isSome = true := by
    simp only [State.engineFree, Bool.and_eq_false_iff, Bool.not_eq_false'] at h
    rcases h with h | h
    · exact .inl h
    · exact .inr (by cases hs : s.sweep <;> simp_all)
  have hl : State.anyLineRequests { s with slot := .pending c } = s.anyLineRequests := State.anyLineRequests_congr rfl rfl
  unfold requestEngine
  dsimp only
  rw [if_pos (by rw [hl]; simpa using this)]

/-! ## Sweeps -/

theorem State.startSweep_writes (s : State) :
    s.startSweep =
      { s with sweep := some { now := s.tick, pos := 0 }, arb := { s.arb with sweepWait := 0 },
               active := if s.commitRequested then s.staged else s.active, commitRequested := false } := by
  unfold State.startSweep State.install
  cases h : s.commitRequested <;> simp [h]

/-! ## Postings -/

/-- A posting to an empty queue is its one entry. -/
theorem State.post_empty (h : Handle) (k : NoticeKind) {s : State} (e : s.notices = []) :
    s.post h k = { s with notices := [{ handle := h, kind := k, tick := s.tick, waited := 0 }] } := by
  simp [State.post, State.hasNotice, e]

/-- A posting writes the slots as they are, or with one missed mark set. -/
theorem State.post_slots_cases (h : Handle) (k : NoticeKind) (s : State) :
    (s.post h k).slots = s.slots ∨ (s.post h k).slots = (s.modifySlot h.slot fun x => { x with missed := true }).slots := by
  unfold State.post
  repeat' split
  all_goals simp [State.raise]

/-- A posting changes no other slot than that of its handle. -/
theorem State.slotAt_post_ne (h : Handle) (k : NoticeKind) (s : State) {j : Nat} (hj : j ≠ h.slot) :
    (s.post h k).slotAt j = s.slotAt j := by
  rcases s.post_slots_cases h k with e | e
  · rw [State.slotAt_eq_of_slots e]
  · rw [State.slotAt_eq_of_slots e, State.slotAt_modifySlot_ne _ _ hj]

/-- A posting changes no slot but for a missed mark. -/
theorem State.slotAt_post (h : Handle) (k : NoticeKind) (s : State) (j : Nat) :
    (s.post h k).slotAt j = { s.slotAt j with missed := ((s.post h k).slotAt j).missed } := by
  rcases s.post_slots_cases h k with e | e
  · rw [State.slotAt_eq_of_slots e]
  · rw [State.slotAt_eq_of_slots e, State.slotAt_modifySlot]
    split
    · rename_i c
      rw [c.1]
    · rfl

theorem State.slotAt_postIf (c : Bool) (h : Handle) (k : NoticeKind) (s : State) (j : Nat) :
    (s.postIf c h k).slotAt j = { s.slotAt j with missed := ((s.postIf c h k).slotAt j).missed } := by
  cases c
  · rfl
  · exact s.slotAt_post h k j

theorem State.slotAt_postIf_ne (c : Bool) (h : Handle) (k : NoticeKind) (s : State) {j : Nat} (hj : j ≠ h.slot) :
    (s.postIf c h k).slotAt j = s.slotAt j := by
  cases c
  · rfl
  · exact s.slotAt_post_ne h k hj

/-- A posting keeps the queue within 64 entries, one for a handle. -/
theorem State.post_noticesBounded (h : Handle) (k : NoticeKind) {s : State} (b : noticesBounded s) : noticesBounded (s.post h k) := by
  have hm : ∀ f : Notice → Notice, (∀ e, (f e).handle = e.handle) → noticesBounded { s with notices := s.notices.map f } := by
    intro f hf
    refine ⟨by simpa using b.1, ?_⟩
    have : Notice.handle ∘ f = Notice.handle := funext hf
    simpa [List.map_map, this] using b.2
  unfold State.post
  split
  · exact hm _ fun e => by split <;> simp_all
  · rename_i hn
    split
    · rename_i hl
      refine ⟨by simp; omega, ?_⟩
      simp only [State.hasNotice, List.any_eq_true, beq_iff_eq, not_exists, not_and] at hn
      simp only [List.map_append, List.map_cons, List.map_nil]
      refine List.Nodup.append b.2 (by simp) ?_
      simpa [List.disjoint_singleton] using fun x hx e => hn x hx e
    · exact b

/-! ## Slots after the operations -/

theorem State.slotAt_dropHold (i j : Nat) (s : State) :
    (s.dropHold i).slotAt j = if j = i ∧ i < 512 then { s.slotAt i with held := false } else s.slotAt j :=
  State.slotAt_modifySlot { s with holds := s.holds.filter fun e => e.slot != i } i j _

theorem Slot.emptied_dropped (x : Slot) : Slot.emptied { x with held := false } = x.emptied := rfl

/-- Retirement empties its slot and leaves every other slot (R17). -/
theorem State.slotAt_retire (i j : Nat) (s : State) :
    (s.retire i).slotAt j = if j = i ∧ i < 512 then (s.slotAt i).emptied else s.slotAt j := by
  have h : ∀ k, ((s.dropHold i).dropPublish (s.handleAt i)).slotAt k = (s.dropHold i).slotAt k := fun _ => rfl
  unfold State.retire
  rw [State.slotAt_modifySlot, h, h, State.slotAt_dropHold, State.slotAt_dropHold]
  by_cases hi : i < 512 <;> by_cases hj : j = i <;> simp [hi, hj, Slot.emptied_dropped]

theorem State.slotAt_retireWith_ne (k : NoticeKind) {i j : Nat} (s : State) (hj : j ≠ i) :
    (s.retireWith k i).slotAt j = s.slotAt j := by
  unfold State.retireWith
  rw [State.slotAt_post_ne _ _ _ hj, State.slotAt_retire, if_neg (by simp [hj])]

/-- Retirement with a notice empties its slot, the missed mark apart. -/
theorem State.slotAt_retireWith (k : NoticeKind) (i j : Nat) (s : State) :
    (s.retireWith k i).slotAt j =
      { (if j = i ∧ i < 512 then (s.slotAt i).emptied else s.slotAt j) with missed := ((s.retireWith k i).slotAt j).missed } := by
  rw [← State.slotAt_retire]
  exact State.slotAt_post (s.handleAt i) k (s.retire i) j

/-- Retirement removes the PUBLISH entries of its record from every line and changes nothing else of it. -/
theorem State.line_retire (i : Nat) (s : State) (l : LineId) : (s.retire i).line l = (s.line l).dropPublish (s.handleAt i) := by
  have h : (s.retire i).line l = ((s.dropHold i).dropPublish (s.handleAt i)).line l := rfl
  rw [h]
  exact State.line_mapLines _ _ l

/-! ## Retiring many slots -/

/-- Retirement of every picked slot below `n`: each slot below `n` is judged as it stood, and no other slot changes. -/
theorem State.slotAt_retireRange (pick : Slot → Bool) (k : NoticeKind) (s : State) (n j : Nat) :
    let t := (List.range n).foldl (fun t i => if pick (t.slotAt i) then t.retireWith k i else t) s
    t.slotAt j =
      if j < n ∧ j < 512 ∧ pick (s.slotAt j) = true then { (s.slotAt j).emptied with missed := (t.slotAt j).missed }
      else s.slotAt j := by
  induction n with
  | zero => simp
  | succ n ih =>
    simp only [List.range_succ, List.foldl_append, List.foldl_cons, List.foldl_nil]
    generalize (List.range n).foldl (fun t i => if pick (t.slotAt i) then t.retireWith k i else t) s = t at ih
    have hn : ∀ u : State, (∀ j, j ≠ n → u.slotAt j = t.slotAt j) → j ≠ n →
        u.slotAt j = if j < n + 1 ∧ j < 512 ∧ pick (s.slotAt j) = true then { (s.slotAt j).emptied with missed := (u.slotAt j).missed }
          else s.slotAt j := by
      intro u hu hj
      rw [hu j hj]
      dsimp only at ih
      by_cases c : j < n ∧ j < 512 ∧ pick (s.slotAt j) = true
      · rw [if_pos c] at ih
        rw [if_pos ⟨by omega, c.2⟩]
        exact ih
      · rw [if_neg c] at ih
        rw [if_neg fun d => c ⟨by omega, d.2⟩]
        exact ih
    by_cases hj : j = n
    · subst hj
      have h0 : t.slotAt j = s.slotAt j := by
        rw [ih, if_neg (by omega)]
      rw [h0]
      by_cases hp : pick (s.slotAt j) = true
      · rw [if_pos hp, State.slotAt_retireWith, h0]
        by_cases h5 : j < 512
        · simp [h5, hp]
        · simp [h5]
          rw [State.slotAt_of_le _ (by omega), State.slotAt_of_le _ (by omega)]
      · rw [if_neg hp, h0, if_neg (by simp [hp])]
    · split
      · exact hn _ (fun i hi => State.slotAt_retireWith_ne k t hi) hj
      · exact hn _ (fun _ _ => rfl) hj

/-- Retirement of every picked slot of the table. -/
theorem State.slotAt_retireAll (pick : Slot → Bool) (k : NoticeKind) (s : State) (j : Nat) :
    (s.retireAll pick k).slotAt j =
      if j < 512 ∧ pick (s.slotAt j) = true then { (s.slotAt j).emptied with missed := ((s.retireAll pick k).slotAt j).missed }
      else s.slotAt j := by
  have h := s.slotAt_retireRange pick k 512 j
  unfold State.retireAll
  by_cases hj : j < 512
  · simpa [hj] using h
  · simpa [hj] using h

/-- What no retirement changes, the retirement of many does not change. -/
theorem State.retireAll_keeps {α : Type} (f : State → α) (pick : Slot → Bool) (k : NoticeKind)
    (hf : ∀ i t, f (State.retireWith k i t) = f t) (s : State) : f (s.retireAll pick k) = f s := by
  unfold State.retireAll
  induction List.range 512 generalizing s with
  | nil => rfl
  | cons i is ih =>
    rw [List.foldl_cons, ih]
    split
    · exact hf i s
    · rfl

theorem State.line_retireWith (k : NoticeKind) (i : Nat) (s : State) (l : LineId) :
    (s.retireWith k i).line l = (s.line l).dropPublish (s.handleAt i) := by
  rw [← State.line_retire]
  simp [State.line, State.retireWith]

/-- What the removal of PUBLISH entries does not change of a line, the retirement of many does not change. -/
theorem State.line_retireAll_keeps {α : Type} (f : LineState → α) (hf : ∀ h ln, f (LineState.dropPublish h ln) = f ln)
    (pick : Slot → Bool) (k : NoticeKind) (s : State) (l : LineId) : f ((s.retireAll pick k).line l) = f (s.line l) :=
  State.retireAll_keeps (fun t => f (t.line l)) pick k (fun i t => by rw [State.line_retireWith, hf]) s

theorem State.retireAll_arb (pick : Slot → Bool) (k : NoticeKind) (s : State) : (s.retireAll pick k).arb = s.arb :=
  State.retireAll_keeps State.arb pick k (fun _ _ => by simp) s

/-! ## Retirement and applied updates whole -/

/-- Retirement whole: its slot, its hold entry, and its PUBLISH entries on the lines. -/
theorem State.retire_eq {s : State} {i : Nat} (h : i < 512) :
    s.retire i =
      { s.setSlot i (s.slotAt i).emptied with
        holds := (s.holds.filter fun e => e.slot != i), lines := (s.dropPublish (s.handleAt i)).lines } := by
  have e : (s.retire i).slots = (s.setSlot i (s.slotAt i).emptied).slots := by
    have e' : (s.retire i).slots = ((s.setSlot i { s.slotAt i with held := false }).setSlot i
        ((s.setSlot i { s.slotAt i with held := false }).slotAt i).emptied).slots := rfl
    rw [e', State.slotAt_setSlot_self _ _ h, State.setSlot_setSlot]
    rfl
  apply State.ext <;> first | rfl | exact e

/-- An applied update changes its own slot, and of every other slot at most the missed mark. -/
theorem State.slotAt_applyUpdate (i j : Nat) (v : List Byte) (a : Byte) (m : Tick) (s : State) :
    (s.applyUpdate i v a m).slotAt j =
      { (if j = i ∧ i < 512 then (s.slotAt i).updated v a m else s.slotAt j) with
        missed := ((s.applyUpdate i v a m).slotAt j).missed } := by
  have h1 := State.slotAt_postIf ((s.slotAt i).state == .stale && (s.slotAt i).body.edge) (s.handleAt i) .recovered
    (s.setSlot i ((s.slotAt i).updated v a m)) j
  have h2 := State.slotAt_postIf ((s.slotAt i).body.updateNotice.asks (s.slotAt i).body.value v) (s.handleAt i) .changed
    ((s.setSlot i ((s.slotAt i).updated v a m)).postIf ((s.slotAt i).state == .stale && (s.slotAt i).body.edge) (s.handleAt i)
      .recovered) j
  rw [h1, State.slotAt_setSlot] at h2
  exact h2

theorem State.slotAt_applyUpdate_ne {i j : Nat} (v : List Byte) (a : Byte) (m : Tick) (s : State) (hj : j ≠ i) :
    (s.applyUpdate i v a m).slotAt j = s.slotAt j := by
  unfold State.applyUpdate
  dsimp only
  rw [State.slotAt_postIf_ne _ _ _ _ hj, State.slotAt_postIf_ne _ _ _ _ hj, State.slotAt_setSlot_ne _ _ hj]

/-! ## Memory faults -/

/-- What a double error leaves of its slot: FAULTED and not held; the body stays (R55). -/
theorem State.slotAt_makeFaulted (q : FaultSource) (s : State) {i : Nat} (h : i < 512) :
    (s.makeFaulted q i).slotAt i =
      { s.slotAt i with state := .faulted, held := false, missed := ((s.makeFaulted q i).slotAt i).missed } := by
  have e := State.slotAt_post (s.handleAt i) .faulted
    (((s.modifySlot i fun x => { x with state := .faulted }).dropHold i).dropPublish (s.handleAt i)) i
  rw [show (((s.modifySlot i fun x => { x with state := .faulted }).dropHold i).dropPublish (s.handleAt i)).slotAt i =
    ((s.modifySlot i fun x => { x with state := .faulted }).dropHold i).slotAt i from rfl, State.slotAt_dropHold, if_pos ⟨rfl, h⟩,
    State.slotAt_modifySlot_self _ _ h] at e
  exact e

theorem State.slotAt_makeFaulted_ne (q : FaultSource) (s : State) {i j : Nat} (h : j ≠ i) :
    (s.makeFaulted q i).slotAt j = s.slotAt j := by
  have e := State.slotAt_post_ne (s.handleAt i) .faulted
    (((s.modifySlot i fun x => { x with state := .faulted }).dropHold i).dropPublish (s.handleAt i)) (j := j) h
  rw [show (((s.modifySlot i fun x => { x with state := .faulted }).dropHold i).dropPublish (s.handleAt i)).slotAt j =
    ((s.modifySlot i fun x => { x with state := .faulted }).dropHold i).slotAt j from rfl, State.slotAt_dropHold,
    if_neg (by simp [h]), State.slotAt_modifySlot_ne _ _ h] at e
  exact e

theorem State.makeFaulted_holds (q : FaultSource) (i : Nat) (s : State) :
    (s.makeFaulted q i).holds = s.holds.filter fun e => e.slot != i := by
  simp [State.makeFaulted, State.dropHold]

theorem State.line_makeFaulted (q : FaultSource) (i : Nat) (s : State) (l : LineId) :
    (s.makeFaulted q i).line l = (s.line l).dropPublish (s.handleAt i) := by
  have e : (s.makeFaulted q i).lines =
      (((s.modifySlot i fun x => { x with state := .faulted }).dropHold i).dropPublish (s.handleAt i)).lines := by
    simp [State.makeFaulted]
  show (s.makeFaulted q i).lines.get l = _
  rw [e]
  exact State.line_mapLines _ _ l

theorem State.makeFaulted_capture (q : FaultSource) (s : State) {i : Nat} (h : i < 512) :
    (s.makeFaulted q i).capture = captureAfter s.capture
      { corrected := false, slot := i, gen := (s.slotAt i).gen, source := q, tick := s.tick, overwritten := false } := by
  have e : ((s.makeFaulted q i).slotAt i).gen = (s.slotAt i).gen := by rw [State.slotAt_makeFaulted q s h]
  rw [← e]
  simp only [State.makeFaulted, State.offerCapture]
  simp
  rfl

/-- A single error is corrected and written back, and reported (R54). -/
theorem State.checkBody_single (q : FaultSource) {i : Nat} {s : State} (h : (s.slotAt i).integrity = .single) :
    s.checkBody q i =
      { s.setSlot i { s.slotAt i with integrity := .clean } with
        conditions := { s.conditions with faultCorrected := true },
        capture := (captureAfter s.capture
          { corrected := true, slot := i, gen := (s.slotAt i).gen, source := q, tick := s.tick, overwritten := false }) } := by
  have hg : ((s.setSlot i { s.slotAt i with integrity := .clean }).slotAt i).gen = (s.slotAt i).gen := by
    rw [State.slotAt_setSlot]
    split <;> rfl
  unfold State.checkBody
  rw [h]
  dsimp only
  unfold State.offerCapture State.modifySlot
  dsimp only
  rw [show ((State.raise .faultCorrected (s.setSlot i { s.slotAt i with integrity := .clean })).slotAt i).gen = _ from hg]
  rfl

/-- A double error in an EMPTY slot is repaired, and reported (R57). -/
theorem State.checkBody_double_empty (q : FaultSource) {i : Nat} {s : State} (h : (s.slotAt i).integrity = .double)
    (he : (s.slotAt i).state = .empty) :
    s.checkBody q i =
      ((s.modifySlot i fun x => { x with body := .empty, integrity := .clean }).raise .faultUncorrectable).offerCapture false q i := by
  simp [State.checkBody, h, he]

/-- A double error in an occupied slot makes its record FAULTED (R55). -/
theorem State.checkBody_double (q : FaultSource) {i : Nat} {s : State} (h : (s.slotAt i).integrity = .double)
    (he : (s.slotAt i).state ≠ .empty) : s.checkBody q i = s.makeFaulted q i := by
  simp [State.checkBody, h, he]

theorem State.bodyLost_iff {i : Nat} {s : State} : s.bodyLost i = true ↔ (s.slotAt i).integrity = .double := by
  simp [State.bodyLost]

/-- A clean body is read without effect. -/
theorem State.checkBody_clean (source : FaultSource) {i : Nat} {s : State} (h : (s.slotAt i).integrity = .clean) :
    s.checkBody source i = s := by
  simp [State.checkBody, h]

theorem State.bodyLost_clean {i : Nat} {s : State} (h : (s.slotAt i).integrity = .clean) : s.bodyLost i = false := by
  simp [State.bodyLost, h]

/-- What one more event makes of a saturating count, n times over. -/
theorem sat16_toNat (n : Half) : (sat16 n).toNat = min 65535 (n.toNat + 1) := by
  unfold sat16
  split
  · subst_vars; rfl
  · have := n.isLt
    have : n.toNat ≠ 65535 := fun e => by
      apply ‹¬ n = 65535›
      exact BitVec.eq_of_toNat_eq (by simpa using e)
    simp [BitVec.toNat_add]
    omega

end Sys2Proof.Machine
end

