-- ==== Sys2Proof/Laws/Table.lean ====
section
/-! SUPPORT. The table commands and the searches of the table: what each operation answers, case by case. -/

set_option maxRecDepth 4000

namespace Sys2Proof.Machine

/-! ## Every host command has one form -/

/-- Every command of the host is `hostCommand` of its own arguments, and only REQUEST_MODE and RESET are allowed in STANDBY. -/
theorem exec_hostCommand (c : Instr) (h : hostCommandOf c = true) :
    ∃ (α : Type) (n : Nat) (allowed : Mode → Bool) (args : Option α) (run : α → State → State),
      (∀ s, exec c s = whilePowered (hostCommand n allowed args run) s) ∧
      ((∀ t, c ≠ .requestMode t) → c ≠ .reset → allowed .standby = false) := by
  cases c <;>
    first
    | (cases h; done)
    | exact ⟨_, _, _, _, _, fun _ => rfl, fun _ _ => rfl⟩
    | exact ⟨_, _, _, _, _, fun _ => rfl, fun a _ => (a _ rfl).elim⟩
    | exact ⟨_, _, _, _, _, fun _ => rfl, fun _ b => (b rfl).elim⟩

/-! ## A table command that a free engine carries out -/

/-- The state on which a free engine carries out a table command of the host. -/
def State.atEngine (argBytes : Nat) (c : HostCommand) (s : State) : State :=
  { s with miso := s.commandOut argBytes, refused := false, slot := .pending c, arb := { s.arb with run := 0 } }

theorem State.engineFree_congr {s t : State} (h : s.engineFree = true) (hl : t.lines = s.lines) (hm : t.mode = s.mode)
    (hs : t.sweep = s.sweep) : t.engineFree = true := by
  rw [State.engineFree_iff] at *
  exact ⟨(State.anyLineRequests_congr hl hm).trans h.1, hs.trans h.2⟩

/-- A table command that passes the port's checks while the engine is free is its operation on `atEngine`. -/
theorem hostCommand_atEngine (n : Nat) {allowed : Mode → Bool} (c : HostCommand) {s : State} (hc : s.portClosed = false)
    (hm : allowed s.mode = true) (hf : s.engineFree = true) :
    hostCommand n allowed (some c) requestEngine s = State.tableOperation c (s.atEngine n c) := by
  rw [hostCommand_run _ _ _ hc hm, requestEngine_free]
  · rfl
  · exact State.engineFree_congr hf rfl rfl rfl

/-- Completing a command of `atEngine` is the answer of a free engine. -/
theorem State.atEngine_complete (n : Nat) (c : HostCommand) (code : ResultCode) (body : List Byte) (s : State) :
    (s.atEngine n c).complete code body = s.engineAnswered n code body := rfl

theorem decodeHandle_of_lt {h : HandleArg} (hh : h.slot.toNat < 512) :
    decodeHandle h = some { slot := h.slot.toNat, gen := h.gen } := by
  simp [decodeHandle, hh]

theorem State.gen_of_names {s : State} {h : HandleArg} (hn : s.names h = true) : (s.slotAt h.slot.toNat).gen = h.gen := by
  simp only [State.names, State.isCurrent, Bool.and_eq_true, beq_iff_eq] at hn
  exact hn.2

/-! ## Searches -/

/-- The first number of a range that passes a test. -/
theorem find_range'_first {p : Nat → Bool} {a n i : Nat} (ha : a ≤ i) (hi : i < a + n) (hp : p i = true)
    (hj : ∀ j < i, a ≤ j → p j = false) : (List.range' a n).find? p = some i := by
  rw [List.find?_eq_some_iff_append]
  refine ⟨hp, List.range' a (i - a), List.range' (i + 1) (a + n - i - 1), ?_, ?_⟩
  · have h1 : n = (i - a) + (1 + (a + n - i - 1)) := by omega
    conv_lhs => rw [h1]
    rw [← List.range'_append, ← List.range'_append]
    simp
    omega
  · intro x hx
    rw [List.mem_range'_1] at hx
    simp [hj x (by omega) (by omega)]

theorem State.lookup_of_keyFree {s : State} {k : Key} (h : s.keyFree k = true) : s.lookup k = none := by
  unfold State.lookup
  rw [List.find?_eq_none]
  simp only [State.keyFree, List.all_eq_true, List.mem_range, Bool.not_eq_true'] at h
  intro x hx
  simp only [List.mem_range] at hx
  simp [h x hx]

theorem State.keyFree_of_lookup {s : State} {k : Key} (h : s.lookup k = none) : s.keyFree k = true := by
  unfold State.lookup at h
  rw [List.find?_eq_none] at h
  simp only [State.keyFree, List.all_eq_true, List.mem_range, Bool.not_eq_true']
  intro x hx
  simpa using h x (by simpa using hx)

/-- Lookup answers the lowest slot that matches. -/
theorem State.lookup_of_lowest {s : State} {k : Key} {i : Nat} (hi : i < 512) (h : (s.slotAt i).matchesKey k = true)
    (hj : ∀ j < i, (s.slotAt j).matchesKey k = false) : s.lookup k = some i := by
  unfold State.lookup
  rw [List.range_eq_range']
  exact find_range'_first (Nat.zero_le _) (by omega) h fun j a _ => hj j a

/-- What a lookup finds is a slot of the table that matches. -/
theorem State.lookup_some {s : State} {k : Key} {i : Nat} (h : s.lookup k = some i) :
    i < 512 ∧ (s.slotAt i).matchesKey k = true := by
  unfold State.lookup at h
  refine ⟨?_, List.find?_some (p := fun i => (s.slotAt i).matchesKey k) h⟩
  have := List.mem_of_find?_eq_some h
  simpa using this

/-- A region is the slots of its kind (R14). -/
theorem Layout.mem_region (y : Layout) (kind : Kind) (h : y.b + y.l + y.e = 512) (j : Nat) :
    j ∈ y.region kind ↔ j < 512 ∧ y.kindAt j = kind := by
  cases kind <;> simp only [Layout.region, Layout.kindAt, List.mem_range'_1] <;> split <;> (try split) <;> simp <;> omega

theorem State.firstEmpty_of_lowest {s : State} {kind : Kind} {i : Nat} (hl : s.layout.b + s.layout.l + s.layout.e = 512) (hi : i < 512)
    (hk : s.layout.kindAt i = kind) (he : (s.slotAt i).state = .empty)
    (hj : ∀ j < i, s.layout.kindAt j = kind → (s.slotAt j).state ≠ .empty) : s.firstEmpty kind = some i := by
  have key : ∀ a n, s.layout.region kind = List.range' a n → s.firstEmpty kind = some i := by
    intro a n e
    have hm := (s.layout.mem_region kind hl i).2 ⟨hi, hk⟩
    unfold State.firstEmpty
    rw [e] at hm ⊢
    rw [List.mem_range'_1] at hm
    refine find_range'_first hm.1 hm.2 (by simp [he]) fun j hji haj => ?_
    have hmj : j ∈ s.layout.region kind := by
      rw [e, List.mem_range'_1]
      omega
    simpa using hj j hji ((s.layout.mem_region _ hl j).1 hmj).2
  cases kind <;> exact key _ _ rfl

theorem State.firstEmpty_none {s : State} {kind : Kind} (hl : s.layout.b + s.layout.l + s.layout.e = 512)
    (hj : ∀ j < 512, s.layout.kindAt j = kind → (s.slotAt j).state ≠ .empty) : s.firstEmpty kind = none := by
  unfold State.firstEmpty
  rw [List.find?_eq_none]
  intro x hx
  have := (s.layout.mem_region _ hl x).1 hx
  simpa using hj x this.1 this.2

/-- What `firstEmpty` finds is an EMPTY slot. -/
theorem State.firstEmpty_some {s : State} {kind : Kind} {i : Nat} (h : s.firstEmpty kind = some i) :
    i ∈ s.layout.region kind ∧ (s.slotAt i).state = .empty := by
  unfold State.firstEmpty at h
  exact ⟨List.mem_of_find?_eq_some h, by simpa using List.find?_some h⟩

/-! ## Commands that take a handle -/

theorem State.onRecord_run {s : State} {h : Handle} (f g : State → State) (hn : s.isCurrent h = true)
    (hf : (s.slotAt h.slot).state ≠ .faulted) : s.onRecord h f g = g s := by
  simp [State.onRecord, hn, hf]

theorem State.onRecord_faulted {s : State} {h : Handle} (f g : State → State) (hn : s.isCurrent h = true)
    (hf : (s.slotAt h.slot).state = .faulted) : s.onRecord h f g = f s := by
  simp [State.onRecord, hn, hf]

theorem State.onRecord_stale {s : State} {h : Handle} (f g : State → State) (hn : s.isCurrent h = false) :
    s.onRecord h f g = s.complete .staleHandle [] := by
  simp [State.onRecord, hn]

theorem State.onBody_clean {s : State} {h : Handle} (f g : State → State) (hi : (s.slotAt h.slot).integrity = .clean) :
    s.onBody h f g = g s := by
  simp [State.onBody, State.checkBody_clean _ hi, State.bodyLost_clean hi]

/-- The body read of a command on an occupied record with a double error: the record is FAULTED first (R56). -/
theorem State.onBody_double {s : State} {h : Handle} (f g : State → State) (hi : (s.slotAt h.slot).integrity = .double)
    (he : (s.slotAt h.slot).state ≠ .empty) : s.onBody h f g = f (s.makeFaulted .command h.slot) := by
  simp [State.onBody, State.checkBody_double _ hi he, State.bodyLost_iff.2 hi]

/-- The body read of a command on a record with a single error: it is corrected and the command goes on (R54). -/
theorem State.onBody_single {s : State} {h : Handle} (f g : State → State) (hi : (s.slotAt h.slot).integrity = .single) :
    s.onBody h f g = g (s.checkBody .command h.slot) := by
  have : s.bodyLost h.slot = false := by simp [State.bodyLost, hi]
  simp [State.onBody, this]

/-! ## The operations -/

theorem State.opCreate_inUse {t : State} {exported : Bool} {key : Key} {p : Policy} (h : t.keyFree key = false) :
    t.opCreate exported key p = t.complete .keyInUse [] := by
  have : (t.lookup key).isSome = true := by
    by_contra hc
    simp only [Option.not_isSome_iff_eq_none] at hc
    simp [State.keyFree_of_lookup hc] at h
  unfold State.opCreate
  rw [if_pos this]

theorem State.opCreate_full {t : State} {exported : Bool} {key : Key} {p : Policy} (h : t.keyFree key = true)
    (he : t.firstEmpty (createdKind exported) = none) : t.opCreate exported key p = t.complete .regionFull [] := by
  unfold State.opCreate
  rw [if_neg (by rw [State.lookup_of_keyFree h]; simp), he]

theorem State.opCreate_new {t : State} {exported : Bool} {key : Key} {p : Policy} {i : Nat} (h : t.keyFree key = true)
    (he : t.firstEmpty (createdKind exported) = some i) (hi : i < 512) :
    t.opCreate exported key p =
      (t.modifySlot i (Slot.occupy .new (createdKind exported) key (createdBody exported p t.tick))).complete .ok
        (handleBytes { slot := i, gen := (t.slotAt i).gen + 1 }) := by
  unfold State.opCreate
  rw [if_neg (by rw [State.lookup_of_keyFree h]; simp), he]
  dsimp only
  rw [State.handleAt, State.slotAt_modifySlot_self _ _ hi]
  rfl

theorem State.opFind_none {t : State} {key : Key} (h : t.keyFree key = true) : t.opFind key = t.complete .notFound [] := by
  unfold State.opFind
  rw [State.lookup_of_keyFree h]

theorem State.opFind_some {t : State} {key : Key} {i : Nat} (h : t.lookup key = some i) :
    t.opFind key = t.complete .ok
      (handleBytes (t.handleAt i) ++ [(t.slotAt i).state.code, kindCode (t.slotAt i).kind, byteOf (t.overlapCount key)]) := by
  unfold State.opFind
  rw [h]

theorem State.opRead_stale {t : State} {h : Handle} (hn : t.isCurrent h = false) :
    t.opRead h = t.complete .staleHandle [] := State.onRecord_stale _ _ hn

theorem State.opWrite_stale {t : State} {h : Handle} (v : List Byte) (now : Bool) (hn : t.isCurrent h = false) :
    t.opWrite h v now = t.complete .staleHandle [] := State.onRecord_stale _ _ hn

theorem State.opWrite_faulted {t : State} {h : Handle} (v : List Byte) (now : Bool) (hn : t.isCurrent h = true)
    (hf : (t.slotAt h.slot).state = .faulted) : t.opWrite h v now = t.complete .faulted [] := State.onRecord_faulted _ _ hn hf

theorem State.opModify_stale {t : State} {h : Handle} (p : Policy) (hn : t.isCurrent h = false) :
    t.opModify h p = t.complete .staleHandle [] := State.onRecord_stale _ _ hn

theorem State.opModify_faulted {t : State} {h : Handle} (p : Policy) (hn : t.isCurrent h = true)
    (hf : (t.slotAt h.slot).state = .faulted) : t.opModify h p = t.complete .faulted [] := State.onRecord_faulted _ _ hn hf

theorem State.opHold_stale {t : State} {h : Handle} (m : Byte) (hn : t.isCurrent h = false) :
    t.opHold h m = t.complete .staleHandle [] := State.onRecord_stale _ _ hn

theorem State.opHold_faulted {t : State} {h : Handle} (m : Byte) (hn : t.isCurrent h = true)
    (hf : (t.slotAt h.slot).state = .faulted) : t.opHold h m = t.complete .faulted [] := State.onRecord_faulted _ _ hn hf

theorem State.opRelease_stale {t : State} {h : Handle} (a : Bool) (hn : t.isCurrent h = false) :
    t.opRelease h a = t.complete .staleHandle [] := State.onRecord_stale _ _ hn

theorem State.opRelease_faulted {t : State} {h : Handle} (a : Bool) (hn : t.isCurrent h = true)
    (hf : (t.slotAt h.slot).state = .faulted) : t.opRelease h a = t.complete .faulted [] := State.onRecord_faulted _ _ hn hf

theorem State.opRead_ok {t : State} {h : Handle} (hn : t.isCurrent h = true) (hf : (t.slotAt h.slot).state ≠ .faulted)
    (hi : (t.slotAt h.slot).integrity = .clean) :
    t.opRead h = t.complete .ok (recordImage h.slot (t.slotAt h.slot) (t.holdOf h.slot)) := by
  unfold State.opRead
  rw [State.onRecord_run _ _ hn hf, State.onBody_clean _ _ hi]

theorem State.opRead_faulted {t : State} {h : Handle} (hn : t.isCurrent h = true) (hf : (t.slotAt h.slot).state = .faulted) :
    t.opRead h = t.answerDirectory h.slot := by
  unfold State.opRead
  rw [State.onRecord_faulted _ _ hn hf]

/-- A WRITE of a clean record that publishes nothing. -/
theorem State.opWrite_quiet {t : State} {h : Handle} {v : List Byte} {now : Bool} (hn : t.isCurrent h = true)
    (hf : (t.slotAt h.slot).state ≠ .faulted) (hi : (t.slotAt h.slot).integrity = .clean)
    (hq : ((t.slotAt h.slot).kind = some .exported && now && t.mode == .run) = false) :
    t.opWrite h v now = (t.modifySlot h.slot (Slot.written v t.tick)).complete .ok [] := by
  unfold State.opWrite
  rw [State.onRecord_run _ _ hn hf, State.onBody_clean _ _ hi]
  dsimp only
  rw [hq]
  rfl

/-- A WRITE of a clean export record with publish-now in RUN. -/
theorem State.opWrite_publish {t : State} {h : Handle} {v : List Byte} {now : Bool} (hn : t.isCurrent h = true)
    (hf : (t.slotAt h.slot).state ≠ .faulted) (hi : (t.slotAt h.slot).integrity = .clean)
    (hq : ((t.slotAt h.slot).kind = some .exported && now && t.mode == .run) = true) :
    t.opWrite h v now = ((t.modifySlot h.slot (Slot.written v t.tick)).publish h.slot).complete .ok [] := by
  unfold State.opWrite
  rw [State.onRecord_run _ _ hn hf, State.onBody_clean _ _ hi]
  dsimp only
  rw [hq]
  rfl

/-- A MODIFY of a clean record whose arguments are in range. -/
theorem State.opModify_run {t : State} {h : Handle} {p : Policy} (hn : t.isCurrent h = true)
    (hf : (t.slotAt h.slot).state ≠ .faulted) (hi : (t.slotAt h.slot).integrity = .clean)
    (hx : ((t.slotAt h.slot).kind = some .exported && (decodeExport p).isNone) = false) :
    t.opModify h p =
      ((t.modifySlot h.slot fun x => { x with
          body := modifiedBody p (modifiedSet (t.slotAt h.slot).kind p) t.tick (t.slotAt h.slot).body, integrity := .clean }).dropLeftLines
        h (t.slotAt h.slot).body.lineSet
        (modifiedBody p (modifiedSet (t.slotAt h.slot).kind p) t.tick (t.slotAt h.slot).body).lineSet).complete .ok [] := by
  unfold State.opModify
  rw [State.onRecord_run _ _ hn hf]
  dsimp only
  rw [hx, if_neg (by decide)]
  exact State.onBody_clean _ _ hi

theorem State.opModify_badArgument {t : State} {h : Handle} {p : Policy} (hn : t.isCurrent h = true)
    (hf : (t.slotAt h.slot).state ≠ .faulted)
    (hx : ((t.slotAt h.slot).kind = some .exported && (decodeExport p).isNone) = true) :
    t.opModify h p = t.complete .badArgument [] := by
  unfold State.opModify
  rw [State.onRecord_run _ _ hn hf]
  dsimp only
  rw [hx]
  rfl

/-- A line set that keeps every line removes nothing. -/
theorem State.dropLeftLines_self (h : Handle) (set : LineSet) (t : State) : t.dropLeftLines h set set = t :=
  State.mapLines_eq_self _ _ fun l => by simp

theorem State.opRetire_current {t : State} {h : Handle} (hn : t.isCurrent h = true) :
    t.opRetire h = (t.retire h.slot).complete .ok [] := by
  unfold State.opRetire
  rw [if_pos hn]

theorem State.opRetire_stale {t : State} {h : Handle} (hn : t.isCurrent h = false) :
    t.opRetire h = t.complete .staleHandle [] := by
  unfold State.opRetire
  rw [if_neg (by simp [hn])]

theorem State.opHold_already {t : State} {h : Handle} {m : Byte} (hn : t.isCurrent h = true)
    (hf : (t.slotAt h.slot).state ≠ .faulted) (hh : (t.slotAt h.slot).held = true) : t.opHold h m = t.complete .alreadyHeld [] := by
  unfold State.opHold
  rw [State.onRecord_run _ _ hn hf, if_pos hh]

theorem State.opHold_limit {t : State} {h : Handle} {m : Byte} (hn : t.isCurrent h = true)
    (hf : (t.slotAt h.slot).state ≠ .faulted) (hh : (t.slotAt h.slot).held = false) (hl : 16 ≤ t.holds.length) :
    t.opHold h m = t.complete .holdLimit [] := by
  unfold State.opHold
  rw [State.onRecord_run _ _ hn hf, if_neg (by simp [hh]), if_pos hl]

theorem State.opHold_ok {t : State} {h : Handle} {m : Byte} (hn : t.isCurrent h = true)
    (hf : (t.slotAt h.slot).state ≠ .faulted) (hh : (t.slotAt h.slot).held = false) (hl : t.holds.length < 16) :
    t.opHold h m =
      { (t.modifySlot h.slot fun x => { x with held := true, expiredHold := false }) with
        holds := t.holds ++
          [{ slot := h.slot, gen := h.gen, start := t.tick, limit := m, update := none, superseded := 0 }],
        slot := .done .ok (tickBytes t.tick) } := by
  unfold State.opHold
  rw [State.onRecord_run _ _ hn hf, if_neg (by simp [hh]), if_neg (by omega)]
  rfl

theorem State.opRelease_held {t : State} {h : Handle} {apply : Bool} {e : HoldEntry} (hn : t.isCurrent h = true)
    (hf : (t.slotAt h.slot).state ≠ .faulted) (hh : (t.slotAt h.slot).held = true) (he : t.holdOf h.slot = some e) :
    t.opRelease h apply = t.releaseHeld h apply e := by
  unfold State.opRelease
  rw [State.onRecord_run _ _ hn hf]
  dsimp only
  rw [if_pos hh, he]

theorem State.opRelease_tooLate {t : State} {h : Handle} {apply : Bool} (hn : t.isCurrent h = true)
    (hf : (t.slotAt h.slot).state ≠ .faulted) (hh : (t.slotAt h.slot).held = false) (he : (t.slotAt h.slot).expiredHold = true) :
    t.opRelease h apply = (t.modifySlot h.slot fun y => { y with expiredHold := false }).complete .tooLate [] := by
  unfold State.opRelease
  rw [State.onRecord_run _ _ hn hf]
  dsimp only
  rw [if_neg (by simp [hh]), if_pos he]

theorem State.opRelease_notHeld {t : State} {h : Handle} {apply : Bool} (hn : t.isCurrent h = true)
    (hf : (t.slotAt h.slot).state ≠ .faulted) (hh : (t.slotAt h.slot).held = false)
    (he : (t.slotAt h.slot).expiredHold = false) : t.opRelease h apply = t.complete .notHeld [] := by
  unfold State.opRelease
  rw [State.onRecord_run _ _ hn hf]
  dsimp only
  rw [if_neg (by simp [hh]), if_neg (by simp [he])]

/-- The end of a hold that applies nothing. -/
theorem State.releaseHeld_drop {t : State} {h : Handle} {apply : Bool} {e : HoldEntry} (ha : (apply && e.update.isSome) = false) :
    t.releaseHeld h apply e = (t.dropHold h.slot).complete .ok [boolByte e.update.isSome, e.superseded] := by
  unfold State.releaseHeld
  dsimp only
  rw [ha]
  rfl

/-- The end of a hold that applies its pending update to a clean record. -/
theorem State.releaseHeld_apply {t : State} {h : Handle} {e : HoldEntry} {u : PendingUpdate} (hu : e.update = some u)
    (hi : (t.slotAt h.slot).integrity = .clean) :
    t.releaseHeld h true e =
      ((t.applyUpdate h.slot u.value u.source u.stamp).dropHold h.slot).complete .ok [1, e.superseded] := by
  unfold State.releaseHeld
  dsimp only
  rw [hu, if_pos (by rfl)]
  exact State.onBody_clean _ _ hi

end Sys2Proof.Machine
end

