-- ==== Sys2Proof/Laws/Events.lean ====
section
/-! SUPPORT. The grants, the frames, the sweep and the lines: what each shared operation of an event comes to, case by case. -/

set_option maxRecDepth 4000

namespace Sys2Proof.Machine

/-! ## Grants to the command slot -/

/-- A granted table command, PURGE apart, is its operation after the grant's counters. -/
theorem State.commandOperation_granted {s : State} {c : HostCommand} (hs : s.slot = .pending c) (hp : ∀ f, c ≠ .purge f)
    (hg : s.grantNext = some .command) : s.commandOperation = s.grantCommand.tableOperation c := by
  unfold State.commandOperation
  rw [hs]
  cases c <;> first | exact absurd rfl (hp _) | (dsimp only; rw [if_pos hg])

/-- A granted PURGE visit is its visit after the grant's counters. -/
theorem State.purgeStep_granted {s : State} {f : PurgeFilter} {p : PurgeRun} (hs : s.slot = .pending (.purge f))
    (hp : s.purge = some p) (hg : s.grantNext = some .command) : s.purgeStep = s.grantCommand.purgeVisitAt f p := by
  unfold State.purgeStep
  rw [hs, hp]
  dsimp only
  rw [if_pos hg]

/-- A PURGE visit to a slot that its filters leave. -/
theorem State.purgeVisitAt_leaves {f : PurgeFilter} {p : PurgeRun} {s : State}
    (h : f.passes (s.layout.kindAt p.pos) (s.slotAt p.pos) = false) :
    s.purgeVisitAt f p =
      if p.pos + 1 < 512 then { s with purge := some { pos := p.pos + 1, retired := p.retired } }
      else { s with purge := none, slot := .done .ok (halfBytes (BitVec.ofNat 16 p.retired)) } := by
  unfold State.purgeVisitAt
  rw [h]
  rfl

/-- A PURGE visit to a slot whose record passes its filters. -/
theorem State.purgeVisitAt_retires {f : PurgeFilter} {p : PurgeRun} {s : State}
    (h : f.passes (s.layout.kindAt p.pos) (s.slotAt p.pos) = true) :
    s.purgeVisitAt f p =
      if p.pos + 1 < 512 then { s.retire p.pos with purge := some { pos := p.pos + 1, retired := p.retired + 1 } }
      else { s.retire p.pos with purge := none, slot := .done .ok (halfBytes (BitVec.ofNat 16 (p.retired + 1))) } := by
  unfold State.purgeVisitAt
  rw [h]
  rfl

/-! ## Frames -/

/-- A granted frame operation of the kind at the head is its operation on the state after the take. -/
theorem State.frameOperation_granted {s : State} {l : LineId} {f : RxFrame} {rest : List RxFrame} {kind : FrameKind}
    {op : LineId → RxFrame → State → State} (hq : (s.line l).rxQueue = f :: rest) (hg : s.grantNext = some (.line l))
    (hr : (s.line l).restartRequest = false) (hk : f.kind = kind) : s.frameOperation kind op l = op l f (s.takeFrame l rest) := by
  unfold State.frameOperation
  rw [hq]
  dsimp only
  rw [if_pos (by simp [hg, hr, hk])]

/-- The flow control on a fall writes the control entry alone. -/
theorem LineState.flowOnFall_eq (acts : Bool) (ln : LineState) :
    ln.flowOnFall acts = { ln with control := (ln.flowOnFall acts).control } := by
  unfold LineState.flowOnFall
  split <;> rfl

/-- The flow control on a join writes the control entry alone. -/
theorem LineState.flowOnJoin_eq (acts : Bool) (ln : LineState) :
    ln.flowOnJoin acts = { ln with control := (ln.flowOnJoin acts).control } := by
  unfold LineState.flowOnJoin
  split <;> rfl

/-- A line written twice has what was written last. -/
theorem State.setLine_setLine (s : State) (l : LineId) (x y : LineState) : (s.setLine l x).setLine l y = s.setLine l y := by
  simp only [State.setLine]
  congr 1
  ext j hj
  simp only [Vector.getElem_set]
  split <;> rfl

/-- The taking line after a take. -/
theorem State.line_takeFrame (s : State) (l : LineId) (rest : List RxFrame) :
    (s.takeFrame l rest).line l = { s.lineTaken l rest with
      counters := { (s.line l).counters with framesTaken := sat16 (s.line l).counters.framesTaken } } := by
  have e : (s.lineTaken l rest).counters = (s.line l).counters := by
    rw [show s.lineTaken l rest = _ from LineState.flowOnFall_eq _ _]
  unfold State.takeFrame
  rw [State.line_modifyLine, if_pos rfl]
  show LineState.count _ (s.lineTaken l rest) = _
  unfold LineState.count
  rw [e]
  rfl

/-- The other lines after a take. -/
theorem State.line_takeFrame_ne (s : State) {l k : LineId} (rest : List RxFrame) (h : k ≠ l) :
    (s.takeFrame l rest).line k = s.line k := by
  unfold State.takeFrame
  rw [State.line_modifyLine, if_neg h]
  rfl

/-- A take, with a further change of its line, is one write of the line and of the arbiter. -/
theorem State.takeFrame_modifyLine (s : State) (l : LineId) (rest : List RxFrame) (g : LineState → LineState) :
    (s.takeFrame l rest).modifyLine l g = { s.withLine l (g { s.lineTaken l rest with
      counters := { (s.line l).counters with framesTaken := sat16 (s.line l).counters.framesTaken } }) with
        arb := (s.grantLine l).arb } := by
  unfold State.modifyLine
  rw [State.line_takeFrame]
  unfold State.takeFrame State.modifyLine
  rw [State.setLine_setLine]
  rfl

/-- A take is one write of the line and of the arbiter. -/
theorem State.takeFrame_eq (s : State) (l : LineId) (rest : List RxFrame) :
    s.takeFrame l rest = { s.withLine l { s.lineTaken l rest with
      counters := { (s.line l).counters with framesTaken := sat16 (s.line l).counters.framesTaken } } with
        arb := (s.grantLine l).arb } := by
  have h := State.takeFrame_modifyLine s l rest id
  unfold State.modifyLine at h
  rw [id, State.setLine_line] at h
  exact h

/-- A frame that no class matches, or whose class is DROP, is counted UNCLASSED. -/
theorem State.classified_drop {s : State} {l : LineId} {f : RxFrame} {op : Fin 16 → Key → State → State}
    (h : ∀ n, s.active.classify l f.ident = some n → (s.active.classes.get n).disposition = .drop) :
    State.classified l f op s = s.count l .unclassed := by
  unfold State.classified
  cases e : s.active.classify l f.ident with
  | none => rfl
  | some n =>
    dsimp only
    rw [if_pos (h n e)]

/-- A classified frame with a payload that covers the selector goes on with its class and its key. -/
theorem State.classified_run {s : State} {l : LineId} {f : RxFrame} {op : Fin 16 → Key → State → State} {n : Fin 16}
    (h : s.active.classify l f.ident = some n) (hd : (s.active.classes.get n).disposition ≠ .drop)
    (hp : (s.active.classes.get n).selLen.val ≤ 8 * f.payload.length) :
    State.classified l f op s = op n (frameKey l f (s.active.classes.get n)) s := by
  unfold State.classified
  rw [h]
  dsimp only
  rw [if_neg hd, if_neg (by simp only [tooShort, decide_eq_true_eq]; omega)]

/-- A granted restart purge is its purge after the grant's counters. -/
theorem State.restartStep_granted {s : State} {l : LineId} (hr : (s.line l).restartRequest = true)
    (hg : s.grantNext = some (.line l)) : s.restartStep l = (s.grantLine l).restartPurge l := by
  unfold State.restartStep
  rw [if_pos (by simp [hg, hr])]

/-! ## Ticks and the sweep -/

/-- What a tick does to the sweep, written out. -/
theorem State.sweepControl_cases (t : State) : t.sweepControl =
    if t.transition = some .drain then t
    else if t.sweep = none then
      { t with
        sweep := some { now := t.tick, pos := 0 }, arb := { t.arb with sweepWait := 0 },
        active := if t.commitRequested then t.staged else t.active, commitRequested := false }
    else if t.sweepOwed then t.raise .sweepOverrun
    else { t with sweepOwed := true } := by
  unfold State.sweepControl
  by_cases h : t.transition = some .drain
  · simp [h]
  · rw [if_neg h, if_neg h]
    by_cases hs : t.sweep = none
    · rw [if_pos (by rw [hs]; rfl), if_pos hs, State.startSweep_writes]
    · rw [if_neg (by simpa using hs), if_neg hs]

/-- A granted sweep visit is the visit and the move of the position. -/
theorem State.sweepStep_granted {s : State} {w : Sweep} (hw : s.sweep = some w) (hg : s.grantNext = some .sweep) :
    s.sweepStep = (s.grantSweep.visitSlot w.now w.pos).advanceSweep w := by
  unfold State.sweepStep
  rw [hw]
  dsimp only
  rw [if_pos hg]

/-- A visit passes an EMPTY slot with a clean body, and a FAULTED one. -/
theorem State.visitSlot_passes {s : State} {n : Tick} {i : Nat} (hi : (s.slotAt i).integrity = .clean)
    (h : (s.slotAt i).state = .empty ∨ (s.slotAt i).state = .faulted) : s.visitSlot n i = s := by
  unfold State.visitSlot
  rcases h with h | h
  · rw [if_neg (by simp [h])]
    dsimp only
    rw [if_pos (by simp [h]), State.checkBody_clean _ hi]
  · rw [if_pos h]

/-- A visit judges a record with a clean body. -/
theorem State.visitSlot_judges {s : State} {n : Tick} {i : Nat} (hi : (s.slotAt i).integrity = .clean)
    (he : (s.slotAt i).state ≠ .empty) (hf : (s.slotAt i).state ≠ .faulted) : s.visitSlot n i = s.judgeSlot n i := by
  unfold State.visitSlot
  rw [if_neg hf]
  dsimp only
  rw [if_neg (by simp [he, State.bodyLost_clean hi]), State.checkBody_clean _ hi]

/-- The position moves on below slot 511. -/
theorem State.advanceSweep_within {s : State} {w : Sweep} (h : w.pos < 511) :
    s.advanceSweep w = { s with sweep := some { now := w.now, pos := w.pos + 1 } } := by
  unfold State.advanceSweep
  rw [if_pos (by omega)]

/-- The visit to slot 511 ends the sweep. -/
theorem State.advanceSweep_last {s : State} {w : Sweep} (h : w.pos = 511) : s.advanceSweep w = s.endSweep := by
  unfold State.advanceSweep
  rw [if_neg (by omega)]

/-- Only an export record is published. -/
theorem State.publishDue_other {s : State} {n : Tick} {i : Nat} (h : (s.slotAt i).kind ≠ some .exported) :
    s.publishDue n i = s := by
  unfold State.publishDue
  dsimp only
  rw [if_neg (by simp [h])]

/-- A record that cannot go STALE, has no limit, or is younger than it, is left by ageing. -/
theorem State.ageSlot_leaves {s : State} {n : Tick} {i : Nat}
    (h : ((s.slotAt i).state == .new || (s.slotAt i).state == .fresh) = false ∨ (s.slotAt i).body.limit = 0 ∨
      age (s.slotAt i).body.stamp n < (s.slotAt i).body.limit.toNat) : s.ageSlot n i = s := by
  unfold State.ageSlot
  dsimp only
  rw [if_neg]
  rcases h with h | h | h
  · rw [h]
    simp
  · simp [h]
  · simp
    intro _ _
    omega

/-- A slot without a hold entry has no hold to expire. -/
theorem State.expireHold_none {s : State} {n : Tick} {i : Nat} (h : s.holdOf i = none) : s.expireHold n i = s := by
  unfold State.expireHold
  rw [h]

/-! ## Lines -/

/-- A line number as it is clocked in. -/
theorem decodeLine_ofNat (l : LineId) : decodeLine (BitVec.ofNat 8 l.val) = some l := by
  have : l.val % 256 = l.val := by omega
  simp [decodeLine, this]

/-- SKIPPED counted some times: that counter alone moves, and saturates. -/
theorem LineState.countTimes_skipped (n : Nat) (ln : LineState) :
    ∃ x : Half, LineState.countTimes .skipped n ln = { ln with counters := { ln.counters with skipped := x } } ∧
      x.toNat = min 65535 (ln.counters.skipped.toNat + n) := by
  induction n generalizing ln with
  | zero => exact ⟨ln.counters.skipped, rfl, by have := ln.counters.skipped.isLt; omega⟩
  | succ n ih =>
    obtain ⟨x, h, h2⟩ := ih (ln.count .skipped)
    refine ⟨x, h, ?_⟩
    rw [h2]
    show min 65535 ((sat16 ln.counters.skipped).toNat + n) = _
    rw [sat16_toNat]
    omega

/-- UNANSWERED counted some times: that counter alone moves, and saturates. -/
theorem LineState.countTimes_unanswered (n : Nat) (ln : LineState) :
    ∃ x : Half, LineState.countTimes .unanswered n ln = { ln with counters := { ln.counters with unanswered := x } } ∧
      x.toNat = min 65535 (ln.counters.unanswered.toNat + n) := by
  induction n generalizing ln with
  | zero => exact ⟨ln.counters.unanswered, rfl, by have := ln.counters.unanswered.isLt; omega⟩
  | succ n ih =>
    obtain ⟨x, h, h2⟩ := ih (ln.count .unanswered)
    refine ⟨x, h, ?_⟩
    rw [h2]
    show min 65535 ((sat16 ln.counters.unanswered).toNat + n) = _
    rw [sat16_toNat]
    omega

/-- A change of a line that leaves it as it is. -/
theorem State.modifyLine_self {s : State} {l : LineId} {g : LineState → LineState} (h : g (s.line l) = s.line l) :
    s.modifyLine l g = s := by
  unfold State.modifyLine
  rw [h, State.setLine_line]

/-- A change of a line whose result is known. -/
theorem State.modifyLine_to {s : State} {l : LineId} {g : LineState → LineState} {x : LineState} (h : g (s.line l) = x) :
    s.modifyLine l g = s.withLine l x := by
  unfold State.modifyLine
  rw [h]
  rfl

/-- The character of a byte is read back as that byte. -/
theorem readCharacter_wireChar : ∀ b : Byte, readCharacter (wireChar b) = .good b := by decide +kernel

/-- A character with a start bit that is no break and whose parity or stop bit is wrong is a character error. -/
theorem readCharacter_error {w : WireChar} (hs : w.getLsbD 0 = false) (hw : w ≠ 0) (h : charSound w = false) :
    readCharacter w = .error := by
  unfold readCharacter
  rw [hs, h, if_neg (by decide), if_neg hw, if_neg (by decide)]

/-- A good character goes to the receiver as its byte. -/
theorem LineState.receiveLevels_wireChar (b : Byte) (ln : LineState) : ln.receiveLevels (wireChar b) = ln.receive b := by
  rw [LineState.receiveLevels, readCharacter_wireChar]

/-- A character on a line that is not sending goes to the receiver. -/
theorem State.hear_receives {s : State} {l : LineId} {c : WireChar} (h : (s.line l).isSending = false) :
    s.hear l c = s.modifyLine l (·.receiveLevels c) := by
  unfold State.hear
  unfold LineState.isSending at h
  split
  · rename_i f e
    rw [e] at h
    dsimp only at h
    rw [if_neg (by simp [h])]
  · rfl

/-- A complete frame of the event's kind is delivered. -/
theorem State.deliverIf_kind {s : State} {l : LineId} {f : RxFrame} {p : FrameKind → Bool} (h : (s.line l).rx = .complete f)
    (hp : p f.kind = true) : State.deliverIf p l s = s.deliver l f := by
  unfold State.deliverIf
  rw [h]
  dsimp only
  rw [if_pos hp]

/-- A line written, and its receiver made READY, is one write. -/
theorem State.setLine_receiverReady (s : State) (l : LineId) (x : LineState) :
    (s.setLine l x).receiverReady l = s.withLine l { x with rx := .ready } := by
  unfold State.receiverReady State.modifyLine
  rw [State.line_setLine, if_pos rfl, State.setLine_setLine]
  rfl

/-- The first data entry to send is the first of the highest priority present. -/
theorem firstToSend_of_highest {data : List DataEntry} {e : DataEntry} (hm : ∀ x ∈ data, x.priority ≤ e.priority)
    (hf : data.find? (fun x => x.priority == e.priority) = some e) : firstToSend data = some e := by
  have none_of : ∀ p : Fin 4, e.priority < p → data.find? (fun x => x.priority == p) = none := by
    intro p hp
    rw [List.find?_eq_none]
    intro x hx h
    have := hm x hx
    rw [beq_iff_eq] at h
    omega
  unfold firstToSend
  have h : e.priority = 0 ∨ e.priority = 1 ∨ e.priority = 2 ∨ e.priority = 3 := by omega
  rcases h with h | h | h | h <;> rw [h] at hf none_of
  · rw [none_of 3 (by decide), none_of 2 (by decide), none_of 1 (by decide)]
    exact hf
  · rw [none_of 3 (by decide), none_of 2 (by decide)]
    dsimp only
    rw [hf]
  · rw [none_of 3 (by decide)]
    dsimp only
    rw [hf]
  · rw [hf]

end Sys2Proof.Machine
end

