-- ==== Sys2Proof/Laws/Vocabulary.lean ====
section
/-! SUPPORT. The words of Safety.lean in which the statements speak, each tied to the operation of the model it describes:
the flow control, flushes and enable events, refusals, the notices of a record, body reads, the retirement of many records, the
arbiter's choice, ageing, publication and the move of the sweep. -/

set_option maxRecDepth 4000

namespace Sys2Proof.Machine

/-! ## Flow control -/

theorem State.flowActs_iff {s : State} : s.flowActs = true ↔ s.mode = .run ∧ s.transition = none := by
  simp [State.flowActs]

/-- The flow state is PAUSED exactly where the nodes will have been told so (R69). -/
theorem LineState.flowPaused_iff (ln : LineState) : ln.flowPaused = true ↔ ln.toldPaused := by
  unfold LineState.flowPaused LineState.toldPaused
  cases hc : ln.control with
  | some c => cases c <;> simp
  | none =>
    cases hf : ln.flight with
    | none => simp
    | some f =>
      obtain ⟨item, _, _, _, _⟩ := f
      rcases item with c | d
      · cases c <;> simp
      · simp

/-- A fall to the low mark while PAUSED empties an unsent PAUSE or places a RESUME (R70). -/
theorem LineState.flowOnFall_acts {acts : Bool} {ln : LineState}
    (h : acts = true ∧ ln.settings.flow = true ∧ ln.rxQueue.length ≤ ln.settings.low ∧ ln.toldPaused) :
    ln.flowOnFall acts = { ln with control := if ln.control = some .pause then none else some .resume } := by
  unfold LineState.flowOnFall
  rw [if_pos (by simp [h.1, h.2.1, h.2.2.1, ln.flowPaused_iff.2 h.2.2.2])]

theorem LineState.flowOnFall_leaves {acts : Bool} {ln : LineState}
    (h : ¬(acts = true ∧ ln.settings.flow = true ∧ ln.rxQueue.length ≤ ln.settings.low ∧ ln.toldPaused)) :
    ln.flowOnFall acts = ln := by
  unfold LineState.flowOnFall
  rw [if_neg]
  simp only [Bool.and_eq_true, decide_eq_true_eq, LineState.flowPaused_iff]
  exact fun c => h ⟨c.1.1.1, c.1.1.2, c.1.2, c.2⟩

/-- A join that reaches the high mark while FLOWING empties an unsent RESUME or places a PAUSE (R70). -/
theorem LineState.flowOnJoin_acts {acts : Bool} {ln : LineState}
    (h : acts = true ∧ ln.settings.flow = true ∧ ln.settings.high ≤ ln.rxQueue.length ∧ ¬ln.toldPaused) :
    ln.flowOnJoin acts = { ln with control := if ln.control = some .resume then none else some .pause } := by
  have hp : ln.flowPaused = false := by simpa [← LineState.flowPaused_iff] using h.2.2.2
  unfold LineState.flowOnJoin
  rw [if_pos (by simp [h.1, h.2.1, h.2.2.1, hp])]

theorem LineState.flowOnJoin_leaves {acts : Bool} {ln : LineState}
    (h : ¬(acts = true ∧ ln.settings.flow = true ∧ ln.settings.high ≤ ln.rxQueue.length ∧ ¬ln.toldPaused)) :
    ln.flowOnJoin acts = ln := by
  unfold LineState.flowOnJoin
  rw [if_neg]
  simp only [Bool.and_eq_true, decide_eq_true_eq, ← LineState.flowPaused_iff, Bool.not_eq_true'] at h ⊢
  exact fun c => h ⟨c.1.1.1, c.1.1.2, c.1.2, by simp [c.2]⟩

/-- A flush is the line after a flush, as the statements have it (R81, R82). -/
theorem LineState.flush_eq (acts : Bool) (ln : LineState) : ln.flush acts = ln.afterFlush acts := by
  unfold LineState.flush LineState.afterFlush
  by_cases hq : ln.rxQueue = []
  · rw [if_pos hq, if_neg (by simp [hq])]
  · rw [if_neg hq]
    by_cases h : acts = true ∧ ln.settings.flow = true ∧ ln.flight.map Flight.item = some (.control .pause)
    · rw [LineState.flowOnFall_acts (ln := { ln with rxQueue := [], data := [], control := none, outstanding := false })
        ⟨h.1, h.2.1, Nat.zero_le _, .inr (.inl ⟨rfl, h.2.2⟩)⟩]
      simp [h.1, h.2.1, h.2.2, hq]
    · rw [LineState.flowOnFall_leaves, if_neg fun c => h ⟨c.1, c.2.1, c.2.2.2⟩]
      rintro ⟨ha, hf, _, ht⟩
      rcases ht with ht | ht | ht
      · cases ht
      · exact h ⟨ha, hf, ht.2⟩
      · cases ht.2.2

/-- An enable event is the line after it, as the statements have it (R81). -/
theorem LineState.enableEvent_eq (acts : Bool) (ln : LineState) : ln.enableEvent acts = ln.afterEnable acts := by
  unfold LineState.enableEvent LineState.afterEnable
  dsimp only
  rw [LineState.flush_eq]
  split <;> rfl

/-! ## Frames -/

/-- A taken frame that is REFUSED. -/
theorem State.takeFrame_frameRefused (s : State) (l : LineId) (rest : List RxFrame) :
    (s.takeFrame l rest).count l .refused = s.frameRefused l rest := by
  unfold State.count
  rw [State.takeFrame_modifyLine]
  rfl

/-- A classified frame whose payload is too short for the selector is REFUSED (R31). -/
theorem State.classified_short {s : State} {l : LineId} {f : RxFrame} {op : Fin 16 → Key → State → State} {n : Fin 16}
    (h : s.active.classify l f.ident = some n) (hd : (s.active.classes.get n).disposition ≠ .drop)
    (hp : 8 * f.payload.length < (s.active.classes.get n).selLen.val) : State.classified l f op s = s.count l .refused := by
  unfold State.classified
  rw [h]
  dsimp only
  rw [if_neg hd, if_pos (by simp only [tooShort, decide_eq_true_eq]; omega)]

/-- The birth of a learned record is one write of its slot, and CREATED under announce (R112, R113). -/
theorem State.birth_eq {s : State} {i : Nat} (l : LineId) (f : RxFrame) (n : Fin 16) (key : Key) (h : i < 512) :
    s.birth i l f n key =
      (s.setSlot i (Slot.occupy .fresh .learned key (learnedBody l f n (s.active.classes.get n) s.tick) (s.slotAt i))).postIf
        (s.active.classes.get n).announce { slot := i, gen := (s.slotAt i).gen + 1 } .created := by
  unfold State.birth State.modifySlot State.handleAt
  dsimp only
  rw [State.slotAt_setSlot_self _ _ h]
  rfl

/-- A search of places in an order ends at the first that passes. -/
theorem find_map_range_first {p : Nat → Bool} {g : Nat → Nat} {n k : Nat} (hk : k < n) (hp : p (g k) = true)
    (hj : ∀ j < k, p (g j) = false) : ((List.range n).map g).find? p = some (g k) := by
  have e : (List.range n).find? (p ∘ g) = some k := by
    rw [List.range_eq_range']
    exact find_range'_first (Nat.zero_le _) (by omega) hp fun j a _ => hj j a
  rw [List.find?_map, e]
  rfl

/-! ## Notices -/

/-- Two states from which a posting makes the same notices, conditions and missed marks. -/
def State.postsAlike (s t : State) : Prop :=
  s.notices = t.notices ∧ s.conditions = t.conditions ∧ s.tick = t.tick ∧ ∀ j, (s.slotAt j).missed = (t.slotAt j).missed

theorem State.postsAlike_trans {s t u : State} (h : s.postsAlike t) (g : t.postsAlike u) : s.postsAlike u :=
  ⟨h.1.trans g.1, h.2.1.trans g.2.1, h.2.2.1.trans g.2.2.1, fun j => (h.2.2.2 j).trans (g.2.2.2 j)⟩

theorem State.postsAlike_setSlot {s : State} {i : Nat} {x : Slot} (h : x.missed = (s.slotAt i).missed) :
    (s.setSlot i x).postsAlike s := by
  refine ⟨rfl, rfl, rfl, fun j => ?_⟩
  rw [State.slotAt_setSlot]
  split
  · rename_i c
    rw [h, c.1]
  · rfl

theorem State.postsAlike_dropHold (i : Nat) (s : State) : (s.dropHold i).postsAlike s := by
  refine ⟨rfl, rfl, rfl, fun j => ?_⟩
  rw [State.slotAt_dropHold]
  split
  · rename_i c
    rw [c.1]
  · rfl

theorem State.postsAlike_retire (i : Nat) (s : State) : (s.retire i).postsAlike s := by
  refine ⟨rfl, rfl, rfl, fun j => ?_⟩
  rw [State.slotAt_retire]
  split
  · rename_i c
    rw [c.1]
    rfl
  · rfl

/-- The same posting to states that post alike leaves states that post alike. -/
theorem State.postsAlike_post (h : Handle) (k : NoticeKind) {s t : State} (e : s.postsAlike t) :
    (s.post h k).postsAlike (t.post h k) := by
  obtain ⟨hn, hc, ht, hm⟩ := e
  have hh : s.hasNotice h = t.hasNotice h := by simp only [State.hasNotice, hn]
  unfold State.post
  by_cases h1 : t.hasNotice h = true
  · rw [if_pos (hh.trans h1), if_pos h1]
    exact ⟨congrArg (List.map _) hn, hc, ht, hm⟩
  · rw [if_neg (by rw [hh]; exact h1), if_neg h1]
    by_cases h2 : t.notices.length < 64
    · rw [if_pos (by rw [hn]; exact h2), if_pos h2]
      exact ⟨by dsimp only; rw [hn, ht], hc, ht, hm⟩
    · rw [if_neg (by rw [hn]; exact h2), if_neg h2]
      refine ⟨hn, congrArg (Conditions.raise .noticeOverflow) hc, ht, fun j => ?_⟩
      have g : ∀ (u : State) (f : Slot → Slot),
          (State.raise .noticeOverflow (u.modifySlot h.slot f)).slotAt j = _ :=
        fun u f => State.slotAt_setSlot u h.slot j (f (u.slotAt h.slot))
      rw [g, g]
      split
      · rfl
      · exact hm j

theorem State.postsAlike_postIf (c : Bool) (h : Handle) (k : NoticeKind) {s t : State} (e : s.postsAlike t) :
    (s.postIf c h k).postsAlike (t.postIf c h k) := by
  unfold State.postIf
  split
  · exact State.postsAlike_post h k e
  · exact e

/-- The notices of an applied update as two postings that its policies ask for (R95). -/
theorem State.updateNotices_eq (i : Nat) (v : List Byte) (s : State) :
    s.updateNotices i v =
      (s.postIf ((s.slotAt i).state == .stale && (s.slotAt i).body.edge) (s.handleAt i) .recovered).postIf
        ((s.slotAt i).body.updateNotice.asks (s.slotAt i).body.value v) (s.handleAt i) .changed := by
  have e1 : ((s.slotAt i).state == .stale && (s.slotAt i).body.edge) = true ↔
      ((s.slotAt i).state = .stale ∧ (s.slotAt i).body.edge = true) := by simp
  have e2 : (s.slotAt i).body.updateNotice.asks (s.slotAt i).body.value v = true ↔
      ((s.slotAt i).body.updateNotice = .every ∨
        ((s.slotAt i).body.updateNotice = .change ∧ (s.slotAt i).body.value ≠ some v)) := by
    cases (s.slotAt i).body.updateNotice <;> simp [UpdateNotice.asks, valueDiffers]
  unfold State.updateNotices State.postIf
  simp only [e1, e2]

theorem State.postsAlike_updateNotices (i : Nat) (v : List Byte) {s t : State} (e : s.postsAlike t)
    (h : s.slotAt i = t.slotAt i) : (s.updateNotices i v).postsAlike (t.updateNotices i v) := by
  have hh : s.handleAt i = t.handleAt i := by simp only [State.handleAt, h]
  rw [State.updateNotices_eq, State.updateNotices_eq, h, hh]
  exact State.postsAlike_postIf _ _ _ (State.postsAlike_postIf _ _ _ e)

/-- An applied update posts its record's notices of an update (R95). -/
theorem State.postsAlike_applyUpdate (i : Nat) (v : List Byte) (a : Byte) (m : Tick) (s : State) :
    (s.applyUpdate i v a m).postsAlike (s.updateNotices i v) := by
  rw [State.updateNotices_eq]
  unfold State.applyUpdate
  exact State.postsAlike_postIf _ _ _ (State.postsAlike_postIf _ _ _ (State.postsAlike_setSlot rfl))

/-! ## Body reads -/

/-- A body read that finds a single error is its correction, as the statements have it (R54). -/
theorem State.checkBody_corrected (q : FaultSource) {i : Nat} {s : State} (h : (s.slotAt i).integrity = .single) :
    s.checkBody q i = s.corrected q i := State.checkBody_single q h

theorem State.slotAt_corrected (q : FaultSource) {i : Nat} {s : State} (h : i < 512) :
    (s.corrected q i).slotAt i = { s.slotAt i with integrity := .clean } := State.slotAt_setSlot_self _ _ h

theorem State.slotAt_corrected_ne (q : FaultSource) {i j : Nat} {s : State} (h : j ≠ i) :
    (s.corrected q i).slotAt j = s.slotAt j := State.slotAt_setSlot_ne _ _ h

/-- The removal of a handle's PUBLISH entries from every line, over the vector of lines. -/
theorem State.dropPublish_lines (h : Handle) (s : State) : (s.dropPublish h).lines = s.lines.map (LineState.dropPublish h) :=
  State.lines_ext fun l => (State.line_mapLines s (fun _ ln => ln.dropPublish h) l).trans (by simp [State.line, Vector.get_eq_getElem])

theorem State.line_lostRecord (q : FaultSource) (i : Nat) (s : State) (l : LineId) :
    (s.lostRecord q i).line l = (s.line l).dropPublish (s.handleAt i) := by
  simp [State.line, State.lostRecord, Vector.get_eq_getElem]

theorem State.slotAt_lostRecord (q : FaultSource) {i : Nat} {s : State} (h : i < 512) :
    (s.lostRecord q i).slotAt i = { s.slotAt i with
      state := .faulted, held := false, missed := ((s.post (s.handleAt i) .faulted).slotAt i).missed } :=
  State.slotAt_setSlot_self _ _ h

theorem State.slotAt_lostRecord_ne (q : FaultSource) {i j : Nat} {s : State} (h : j ≠ i) :
    (s.lostRecord q i).slotAt j = s.slotAt j := State.slotAt_setSlot_ne _ _ h

/-- Making a record FAULTED is its loss, as the statements have it (R55). -/
theorem State.makeFaulted_eq (q : FaultSource) {i : Nat} {s : State} (h : i < 512) : s.makeFaulted q i = s.lostRecord q i := by
  have alike : (((s.modifySlot i fun x => { x with state := .faulted }).dropHold i).dropPublish (s.handleAt i)).postsAlike s :=
    State.postsAlike_trans (State.postsAlike_dropHold i (s.modifySlot i fun x => { x with state := .faulted }))
      (State.postsAlike_setSlot rfl)
  have posts := State.postsAlike_post (s.handleAt i) .faulted alike
  apply State.ext
  case slots =>
    refine State.slots_ext fun j => ?_
    by_cases hj : j = i
    · subst hj
      rw [State.slotAt_makeFaulted q s h, State.slotAt_lostRecord q h, ← posts.2.2.2 j]
      rfl
    · rw [State.slotAt_makeFaulted_ne q s hj, State.slotAt_lostRecord_ne q hj]
  case lines =>
    refine State.lines_ext fun l => ?_
    exact (State.line_makeFaulted q i s l).trans (State.line_lostRecord q i s l).symm
  case capture => exact State.makeFaulted_capture q s h
  case holds => exact State.makeFaulted_holds q i s
  case notices => exact posts.1
  case conditions => exact congrArg (Conditions.raise .faultUncorrectable) posts.2.1
  all_goals simp [State.lostRecord, State.withSlot]

/-! ## Retirement of many records -/

theorem State.postsAlike_retireWith (k : NoticeKind) (i : Nat) {s t : State} (e : s.postsAlike t) :
    (s.retireWith k i).postsAlike (t.post (s.handleAt i) k) :=
  State.postsAlike_post _ _ (State.postsAlike_trans (State.postsAlike_retire i s) e)

/-- The retirement of many records posts their evictions, as the statements have them (R15, R47). -/
theorem State.postsAlike_retireAll (pick : Slot → Bool) (reason : Reason) (s : State) :
    (s.retireAll pick (.evicted reason)).postsAlike (s.evictions pick reason) := by
  have key : ∀ is : List Nat, is.Nodup → ∀ t u : State, t.postsAlike u → (∀ i ∈ is, t.slotAt i = s.slotAt i) →
      (is.foldl (fun t i => if pick (t.slotAt i) then t.retireWith (.evicted reason) i else t) t).postsAlike
        ((is.filter fun i => pick (s.slotAt i)).foldl (fun t i => t.post (s.handleAt i) (.evicted reason)) u) := by
    intro is
    induction is with
    | nil => exact fun _ t u e _ => e
    | cons i is ih =>
      intro hd t u e hs
      have hi := hs i (by simp)
      have hd' := List.nodup_cons.1 hd
      rw [List.foldl_cons, hi]
      by_cases hp : pick (s.slotAt i) = true
      · rw [if_pos hp, List.filter_cons_of_pos (by simpa using hp), List.foldl_cons]
        refine ih hd'.2 _ _ ?_ fun j hj => ?_
        · have : t.handleAt i = s.handleAt i := by simp only [State.handleAt, hi]
          rw [← this]
          exact State.postsAlike_retireWith _ i e
        · rw [State.slotAt_retireWith_ne _ _ fun h : j = i => hd'.1 (h ▸ hj)]
          exact hs j (by simp [hj])
      · rw [if_neg hp, List.filter_cons_of_neg (by simpa using hp)]
        exact ih hd'.2 t u e fun j hj => hs j (by simp [hj])
  exact key (List.range 512) List.nodup_range s s ⟨rfl, rfl, rfl, fun _ => rfl⟩ fun _ _ => rfl

/-- Evictions into an empty notice queue with room for all of them join it in slot order. -/
theorem State.evictions_room {pick : Slot → Bool} {reason : Reason} {s : State} (hn : s.notices = [])
    (hc : ((List.range 512).countP fun i => pick (s.slotAt i)) ≤ 64) :
    s.evictions pick reason = { s with notices := ((List.range 512).filter fun i => pick (s.slotAt i)).map fun i =>
      { handle := s.handleAt i, kind := .evicted reason, tick := s.tick, waited := 0 } } := by
  have key : ∀ is : List Nat, is.Nodup → ∀ t : State, (∀ e ∈ t.notices, ∀ i ∈ is, e.handle ≠ s.handleAt i) →
      t.notices.length + is.length ≤ 64 → t.tick = s.tick →
      is.foldl (fun t i => t.post (s.handleAt i) (.evicted reason)) t = { t with notices := t.notices ++ is.map fun i =>
        { handle := s.handleAt i, kind := .evicted reason, tick := s.tick, waited := 0 } } := by
    intro is
    induction is with
    | nil => simp
    | cons i is ih =>
      intro hd t h hl ht
      have hd' := List.nodup_cons.1 hd
      have hp : t.post (s.handleAt i) (.evicted reason) = { t with
          notices := t.notices ++ [{ handle := s.handleAt i, kind := .evicted reason, tick := s.tick, waited := 0 }] } := by
        unfold State.post State.hasNotice
        rw [if_neg, if_pos (by simp at hl; omega), ht]
        simp only [List.any_eq_true, beq_iff_eq]
        rintro ⟨e, he, h'⟩
        exact h e he i (by simp) h'
      rw [List.foldl_cons, hp, ih hd'.2]
      · simp
      · intro e he j hj
        rcases List.mem_append.1 he with he | he
        · exact h e he j (by simp [hj])
        · simp only [List.mem_singleton] at he
          subst he
          intro c
          have h' : i = j := congrArg Handle.slot c
          exact hd'.1 (h' ▸ hj)
      · simp at hl ⊢
        omega
      · exact ht
  unfold State.evictions
  rw [key _ (List.nodup_range.filter _) s (by simp [hn]) (by simpa [hn, ← List.countP_eq_length_filter] using hc) rfl, hn]
  rfl

theorem State.retireAll_holds {pick : Slot → Bool} (k : NoticeKind) (s : State) (hp : pick Slot.reset = false) :
    (s.retireAll pick k).holds = s.holds.filter fun e => !pick (s.slotAt e.slot) := by
  have key : ∀ is : List Nat, is.Nodup → ∀ t : State, (∀ i ∈ is, t.slotAt i = s.slotAt i) →
      (is.foldl (fun t i => if pick (t.slotAt i) then t.retireWith k i else t) t).holds =
        t.holds.filter fun e => !(decide (e.slot ∈ is) && pick (s.slotAt e.slot)) := by
    intro is
    induction is with
    | nil => intro _ t _; simp
    | cons i is ih =>
      intro hd t hs
      have hi := hs i (by simp)
      have hd' := List.nodup_cons.1 hd
      rw [List.foldl_cons, hi]
      split
      · rename_i hq
        rw [ih hd'.2]
        · rw [State.retireWith, State.post_holds, show (t.retire i).holds = t.holds.filter fun e => e.slot != i from rfl, List.filter_filter]
          refine List.filter_congr fun e _ => ?_
          by_cases h : e.slot = i
          · simp [h, hq]
          · simp [h]
        · intro j hj
          rw [State.slotAt_retireWith_ne _ _ fun h : j = i => hd'.1 (h ▸ hj)]
          exact hs j (by simp [hj])
      · rename_i hq
        rw [ih hd'.2 t fun j hj => hs j (by simp [hj])]
        refine List.filter_congr fun e _ => ?_
        by_cases h : e.slot = i
        · simp [h, hq]
        · simp [h]
  unfold State.retireAll
  rw [key (List.range 512) List.nodup_range s fun _ _ => rfl]
  refine List.filter_congr fun e _ => ?_
  by_cases h : e.slot < 512
  · simp [h]
  · rw [State.slotAt_of_le _ (by omega), hp]
    simp

theorem State.line_retireAll (pick : Slot → Bool) (k : NoticeKind) (s : State) (l : LineId) :
    (s.retireAll pick k).line l = s.lineWithout pick l := by
  have key : ∀ is : List Nat, is.Nodup → ∀ t : State, (∀ i ∈ is, t.slotAt i = s.slotAt i) →
      (is.foldl (fun t i => if pick (t.slotAt i) then t.retireWith k i else t) t).line l =
        { t.line l with data := (t.line l).data.filter fun e => (is.all fun i => !(pick (s.slotAt i) && e.item == .publish (s.handleAt i))) } := by
    intro is
    induction is with
    | nil => intro _ t _; simp
    | cons i is ih =>
      intro hd t hs
      have hi := hs i (by simp)
      have hd' := List.nodup_cons.1 hd
      rw [List.foldl_cons, hi]
      split
      · rename_i hq
        rw [ih hd'.2]
        · rw [State.line_retireWith, show t.handleAt i = s.handleAt i by simp only [State.handleAt, hi]]
          simp [LineState.dropPublish, List.filter_filter, hq, Bool.and_comm]
          refine List.filter_congr fun e _ => ?_
          rfl
        · intro j hj
          rw [State.slotAt_retireWith_ne _ _ fun h : j = i => hd'.1 (h ▸ hj)]
          exact hs j (by simp [hj])
      · rename_i hq
        rw [ih hd'.2 t fun j hj => hs j (by simp [hj])]
        simp [hq]
  exact key (List.range 512) List.nodup_range s fun _ _ => rfl

/-- The same evictions from states that post alike and hold the same slots leave states that post alike. -/
theorem State.evictions_congr {pick : Slot → Bool} {reason : Reason} {s t : State} (e : s.postsAlike t) (h : ∀ i, s.slotAt i = t.slotAt i) :
    (s.evictions pick reason).postsAlike (t.evictions pick reason) := by
  have hh : ∀ i, s.handleAt i = t.handleAt i := fun i => by simp only [State.handleAt, h]
  have key : ∀ is : List Nat, ∀ u v : State, u.postsAlike v →
      (is.foldl (fun u i => u.post (t.handleAt i) (.evicted reason)) u).postsAlike
        (is.foldl (fun u i => u.post (t.handleAt i) (.evicted reason)) v) := by
    intro is
    induction is with
    | nil => exact fun _ _ e => e
    | cons i is ih => exact fun u v e => ih _ _ (State.postsAlike_post _ _ e)
  unfold State.evictions
  simp only [h, hh]
  exact key _ s t e

/-- What the retirement of many records leaves of a slot: a picked one has the effects of R17, with the missed mark that the evictions leave;
another is as it was. -/
theorem State.slotAt_retireAll_evictions {pick : Slot → Bool} (reason : Reason) (s : State) (hp : pick Slot.reset = false) (i : Nat) :
    (pick (s.slotAt i) = true → (s.retireAll pick (.evicted reason)).slotAt i =
      { state := .empty, kind := none, gen := (s.slotAt i).gen, key := none, held := false, expiredHold := false,
        missed := ((s.evictions pick reason).slotAt i).missed, body := Body.empty, integrity := .clean }) ∧
    (pick (s.slotAt i) = false → (s.retireAll pick (.evicted reason)).slotAt i = s.slotAt i) := by
  have e := State.slotAt_retireAll pick (.evicted reason) s i
  have posts := (State.postsAlike_retireAll pick reason s).2.2.2 i
  refine ⟨fun h => ?_, fun h => ?_⟩
  · have hi : i < 512 := by
      by_contra hi
      rw [State.slotAt_of_le _ (by omega), hp] at h
      cases h
    rw [if_pos ⟨hi, h⟩] at e
    rw [e, ← posts]
    rfl
  · rw [if_neg (by simp [h])] at e
    exact e

/-- The retirement of many records writes the slots, the holds, the lines, the notices and the conditions alone. -/
theorem State.retireAll_rest (pick : Slot → Bool) (k : NoticeKind) (s : State) (a : Vector Slot 512) (b : List HoldEntry)
    (c : Vector LineState 4) (d : List Notice) (e : Conditions) :
    { s.retireAll pick k with slots := a, holds := b, lines := c, notices := d, conditions := e } =
      { s with slots := a, holds := b, lines := c, notices := d, conditions := e } :=
  State.retireAll_keeps (fun t => ({ t with slots := a, holds := b, lines := c, notices := d, conditions := e } : State)) pick k
    (fun i t => by apply State.ext <;> simp) s

/-- A layout conflicts with an occupied bound record at or above its bound size, or an export record below its export region (R15). -/
theorem State.layoutConflict_iff {y : Layout} {s : State} : s.layoutConflict y = true ↔
    ∃ i < 512, (s.slotAt i).state ≠ .empty ∧
      (((s.slotAt i).kind = some .bound ∧ y.b ≤ i) ∨ ((s.slotAt i).kind = some .exported ∧ i < y.b + y.l)) := by
  simp [State.layoutConflict, Slot.occupied]

/-! ## The arbiter -/

/-- A line requests the engine by a restart request, or by a frame in a mode in which frames are taken (R45, R47, R89). -/
theorem State.lineRequests_iff {s : State} {l : LineId} : s.lineRequests l = true ↔
    (s.line l).restartRequest = true ∨ ((s.mode = .run ∨ s.mode = .listen) ∧ (s.line l).rxQueue ≠ []) := by
  simp [State.lineRequests, State.takesFrames]

theorem State.anyLineRequests_iff {s : State} : s.anyLineRequests = true ↔ ∃ l, s.lineRequests l = true := by
  simp [State.anyLineRequests, Fin.exists_fin_succ, or_assoc]

/-- The command slot requests the engine with a table command (R44). -/
theorem State.commandRequests_iff {s : State} : s.commandRequests = true ↔
    ∃ c, s.slot = .pending c ∧ (∀ m, c ≠ .requestMode m) ∧ c ≠ .reset := by
  unfold State.commandRequests
  cases h : s.slot with
  | pending c => cases c <;> simp [HostCommand.isTable]
  | _ => simp

/-- The first requesting line counting up from the one after the line pointer (R49). -/
theorem State.nextLine_first {s : State} {k : Fin 4} (h : s.lineRequests (s.arb.pointer + 1 + k) = true)
    (hj : ∀ j < k, s.lineRequests (s.arb.pointer + 1 + j) = false) : s.nextLine = some (s.arb.pointer + 1 + k) := by
  have e : [s.arb.pointer + 1, s.arb.pointer + 2, s.arb.pointer + 3, s.arb.pointer] =
      [s.arb.pointer + 1 + 0, s.arb.pointer + 1 + 1, s.arb.pointer + 1 + 2, s.arb.pointer + 1 + 3] := by
    generalize s.arb.pointer = p
    revert p
    decide
  unfold State.nextLine
  rw [e]
  fin_cases k
  · simp at h
    simp [h]
  · have h0 := hj 0 (by decide)
    simp at h h0
    simp [h, h0]
  · have h0 := hj 0 (by decide)
    have h1 := hj 1 (by decide)
    simp at h h0 h1
    simp [h, h0, h1]
  · have h0 := hj 0 (by decide)
    have h1 := hj 1 (by decide)
    have h2 := hj 2 (by decide)
    simp at h h0 h1 h2
    simp [h, h0, h1, h2]

theorem State.nextLine_none {s : State} (h : ∀ l, s.lineRequests l = false) : s.nextLine = none := by
  simp [State.nextLine, h]

theorem State.anyLineRequests_eq_false {s : State} (h : ∀ l, s.lineRequests l = false) : s.anyLineRequests = false := by
  simp [State.anyLineRequests, h]

/-- The arbiter's choice by cases (R48, R49): nobody in STARTING; the sweep by its share; else the command slot; else a line; else the
sweep, or nobody. -/
theorem State.grantNext_starting {s : State} (h : s.mode = .starting) : s.grantNext = none := by
  unfold State.grantNext
  rw [if_pos h]

theorem State.grantNext_share {s : State} (h : s.mode ≠ .starting) (hs : s.sweep ≠ none) (hw : s.arb.sweepShare ≤ s.arb.sweepWait) :
    s.grantNext = some .sweep := by
  unfold State.grantNext
  rw [if_neg h, if_pos (by simp [Option.isSome_iff_ne_none.2 hs, hw])]

theorem State.grantNext_notShare {s : State} (h : s.mode ≠ .starting) (hs : s.sweep = none ∨ s.arb.sweepWait < s.arb.sweepShare) :
    s.grantNext = if s.commandRequests && (!s.anyLineRequests || s.arb.run < s.arb.fieldShare) then some .command
      else match s.nextLine with
        | some l => some (.line l)
        | none => if s.sweep.isSome then some .sweep else none := by
  have hn : ¬(s.sweep.isSome && decide (s.arb.sweepShare ≤ s.arb.sweepWait)) = true := by
    rcases hs with hs | hs
    · simp [hs]
    · simp
      omega
  unfold State.grantNext
  refine (if_neg h).trans ((if_neg hn).trans ?_)
  cases s.nextLine <;> rfl

theorem State.grantNext_command {s : State} (h : s.mode ≠ .starting) (hs : s.sweep = none ∨ s.arb.sweepWait < s.arb.sweepShare)
    (hc : s.commandRequests = true) (hl : (∀ l, s.lineRequests l = false) ∨ s.arb.run < s.arb.fieldShare) :
    s.grantNext = some .command := by
  rw [State.grantNext_notShare h hs, if_pos]
  rcases hl with hl | hl
  · simp [hc, State.anyLineRequests_eq_false hl]
  · simp [hc, hl]

theorem State.grantNext_line {s : State} {k : Fin 4} (h : s.mode ≠ .starting)
    (hs : s.sweep = none ∨ s.arb.sweepWait < s.arb.sweepShare) (hc : s.commandRequests = false ∨ s.arb.fieldShare ≤ s.arb.run)
    (hk : s.lineRequests (s.arb.pointer + 1 + k) = true) (hj : ∀ j < k, s.lineRequests (s.arb.pointer + 1 + j) = false) :
    s.grantNext = some (.line (s.arb.pointer + 1 + k)) := by
  have hl : s.anyLineRequests = true := State.anyLineRequests_iff.2 ⟨_, hk⟩
  rw [State.grantNext_notShare h hs, if_neg, State.nextLine_first hk hj]
  rcases hc with hc | hc
  · simp [hc]
  · simp [hl]
    omega

theorem State.grantNext_rest {s : State} (h : s.mode ≠ .starting) (hs : s.sweep = none ∨ s.arb.sweepWait < s.arb.sweepShare)
    (hc : s.commandRequests = false) (hl : ∀ l, s.lineRequests l = false) :
    s.grantNext = if s.sweep.isSome then some .sweep else none := by
  rw [State.grantNext_notShare h hs, if_neg (by simp [hc]), State.nextLine_none hl]

/-- A record that a PURGE retires: occupied, in a named region, of the line, and past the state filters (R20). -/
theorem PurgeFilter.passes_iff {f : PurgeFilter} {y : Layout} {i : Nat} {x : Slot} : f.passes (y.kindAt i) x = true ↔
    x.state ≠ .empty ∧ (if i < y.b then f.bound = true else if i < y.b + y.l then f.learned = true else f.exported = true) ∧
    (f.line = none ∨ ∃ k, x.key = some k ∧ k.line = f.line) ∧ (x.state = .faulted → f.faultedToo = true) ∧
    (x.state ≠ .faulted → f.staleOnly = true → x.state = .stale) := by
  have e : f.names (y.kindAt i) = true ↔
      (if i < y.b then f.bound = true else if i < y.b + y.l then f.learned = true else f.exported = true) := by
    unfold Layout.kindAt
    by_cases h1 : i < y.b
    · simp [h1, PurgeFilter.names]
    · by_cases h2 : i < y.b + y.l <;> simp [h1, h2, PurgeFilter.names]
  unfold PurgeFilter.passes
  simp only [Bool.and_eq_true, Bool.or_eq_true, e, Slot.occupied, bne_iff_ne, beq_iff_eq, Option.map_eq_some_iff, and_assoc]
  refine and_congr_right fun _ => and_congr_right fun _ => and_congr_right fun _ => ?_
  by_cases hs : x.state = .faulted
  · simp [hs]
  · rw [if_neg hs]
    cases hf : f.staleOnly <;> simp [hs]

/-! ## The sweep -/

/-- Ageing is the record after ageing, as the statements have it (R124). -/
theorem State.ageSlot_eq (n : Tick) (i : Nat) (s : State) : s.ageSlot n i = s.agedInSweep n i := by
  have e : (((s.slotAt i).state == .new || (s.slotAt i).state == .fresh) && (s.slotAt i).body.limit != 0 &&
        decide ((s.slotAt i).body.limit.toNat ≤ age (s.slotAt i).body.stamp n)) = true ↔
      (((s.slotAt i).state = .new ∨ (s.slotAt i).state = .fresh) ∧ (s.slotAt i).body.limit ≠ 0 ∧
        (s.slotAt i).body.limit.toNat ≤ age (s.slotAt i).body.stamp n) := by simp [and_assoc]
  unfold State.ageSlot State.agedInSweep
  dsimp only
  by_cases h : ((s.slotAt i).state = .new ∨ (s.slotAt i).state = .fresh) ∧ (s.slotAt i).body.limit ≠ 0 ∧
      (s.slotAt i).body.limit.toNat ≤ age (s.slotAt i).body.stamp n
  · rw [if_pos (e.2 h), if_pos h]
    rfl
  · rw [if_neg fun c => h (e.1 c), if_neg h]

/-- Ageing changes its record's state and missed mark, and nothing else of its slot. -/
theorem State.slotAt_agedInSweep {n : Tick} {i : Nat} {s : State} (hi : i < 512) :
    ∃ x b, (s.agedInSweep n i).slotAt i = { s.slotAt i with state := x, missed := b } := by
  unfold State.agedInSweep
  dsimp only
  split
  · rw [State.slotAt_postIf, show (s.withSlot i { s.slotAt i with state := .stale }).slotAt i = _ from State.slotAt_setSlot_self _ _ hi]
    exact ⟨_, _, rfl⟩
  · exact ⟨(s.slotAt i).state, (s.slotAt i).missed, rfl⟩

theorem State.slotAt_agedInSweep_ne {n : Tick} {i j : Nat} {s : State} (hj : j ≠ i) :
    (s.agedInSweep n i).slotAt j = s.slotAt j := by
  unfold State.agedInSweep
  dsimp only
  split
  · rw [State.slotAt_postIf_ne _ _ _ _ hj]
    exact State.slotAt_setSlot_ne _ _ hj
  · rfl

/-- Ageing writes the slots, the notices and the conditions alone. -/
theorem State.agedInSweep_rest (n : Tick) (i : Nat) (s : State) (a : Vector Slot 512) (b : List Notice) (c : Conditions) :
    { s.agedInSweep n i with slots := a, notices := b, conditions := c } = { s with slots := a, notices := b, conditions := c } := by
  unfold State.agedInSweep
  dsimp only
  split
  · apply State.ext <;> simp [State.withSlot]
  · rfl

/-- The move of the sweep is the sweep after a visit, as the statements have it, once the grant has cleared the sweep-wait count. -/
theorem State.advanceSweep_eq {t : State} {w : Sweep} (h : t.arb.sweepWait = 0) : t.advanceSweep w = t.sweptPast w := by
  have ha : ({ t.arb with sweepWait := 0 } : Arbiter) = t.arb := by rw [← h]
  unfold State.advanceSweep State.sweptPast
  dsimp only
  rw [ha]
  by_cases h5 : w.pos < 511
  · rw [if_pos (by omega), if_pos h5]
  · rw [if_neg (by omega), if_neg h5]
    unfold State.endSweep
    dsimp only
    rw [ha]
    by_cases ho : t.sweepOwed = true
    · rw [if_pos ho, if_pos ho, State.startSweep_writes]
      dsimp only
      rw [ha]
    · rw [if_neg ho, if_neg ho, ← Bool.not_eq_true _ |>.mp ho]

/-- The move of the sweep leaves the slots, the holds, the lines, the notices, the conditions and the capture alone, and reads none of them. -/
theorem State.sweptPast_rest (w : Sweep) (s : State) (a : Vector Slot 512) (b : List HoldEntry) (c : Vector LineState 4) (d : List Notice)
    (e : Conditions) (f : Option Capture) :
    { s.sweptPast w with slots := a, holds := b, lines := c, notices := d, conditions := e, capture := f } =
      State.sweptPast w { s with slots := a, holds := b, lines := c, notices := d, conditions := e, capture := f } := by
  unfold State.sweptPast
  dsimp only
  repeat' split
  all_goals rfl

/-- What a publication makes of a line (R131, R132). -/
theorem State.line_publish (i : Nat) (s : State) (l : LineId) : (s.publish i).line l = s.publishedOn i (s.slotAt i) l := by
  unfold State.publish State.publishedOn lineIn
  dsimp only
  rw [State.line_mapLines]
  by_cases h1 : (s.slotAt i).body.lineSet.getLsbD l.val = true
  · simp only [h1, Bool.true_eq_false, if_true, if_false]
    by_cases h2 : (s.slotAt i).state = .fresh
    · simp only [h2, ne_eq, not_true, if_true, if_false]
      unfold LineState.offerPublish LineState.hasPublish
      repeat' split
      all_goals rfl
    · simp only [h2, ne_eq, not_false_eq_true, if_true, if_false]
      rfl
  · rw [if_neg h1, if_pos (by simpa using h1)]

/-! ## Characters -/

/-- A byte's character: a start bit, the data bits in their order, an even number of ones with the parity bit, a stop bit (R62). -/
theorem wireChar_bits : ∀ c : Byte, (wireChar c).getLsbD 0 = false ∧ (∀ k < 8, (wireChar c).getLsbD (k + 1) = c.getLsbD k) ∧
    ((List.range 9).countP fun k => (wireChar c).getLsbD (k + 1)) % 2 = 0 ∧ (wireChar c).getLsbD 10 = true := by decide +kernel

/-- A character with no stop bit, or an odd number of ones, is not sound (R62). -/
theorem charSound_eq_false : ∀ w : WireChar,
    (w.getLsbD 10 = false ∨ ((List.range 9).countP fun k => w.getLsbD (k + 1)) % 2 = 1) → charSound w = false := by decide +kernel

end Sys2Proof.Machine
end

