-- ==== Sys2Proof/Laws/BodyReads.lean ====
section
/-! SUPPORT. The operations that read a body (R53): what each does with a single error (R54) and with a double one (R55, R56). The bytes
that a command clocks out are read by none of them, so a command that corrects an error goes on as from the corrected state. -/

set_option maxRecDepth 4000

namespace Sys2Proof.Machine

/-! ## Operations that do not read what has been clocked out -/

/-- An operation that neither reads nor writes the bytes clocked out. -/
def misoBlind (f : State → State) : Prop := ∀ (t : State) (m : List Byte), f { t with miso := m } = { f t with miso := m }

theorem misoBlind_comp {f g : State → State} (hg : misoBlind g) (hf : misoBlind f) : misoBlind fun t => g (f t) := fun t m => by
  show g (f { t with miso := m }) = _
  rw [hf, hg]

theorem misoBlind_post (h : Handle) (k : NoticeKind) : misoBlind (State.post h k) := fun t m => by
  unfold State.post
  rw [show ({ t with miso := m } : State).hasNotice h = t.hasNotice h from rfl]
  repeat' split
  all_goals rfl

theorem misoBlind_postIf (c : Bool) (h : Handle) (k : NoticeKind) : misoBlind (State.postIf c h k) := fun t m => by
  unfold State.postIf
  split
  · exact misoBlind_post h k t m
  · rfl

theorem misoBlind_applyUpdate (i : Nat) (v : List Byte) (a : Byte) (n : Tick) : misoBlind (State.applyUpdate i v a n) := fun t m => by
  unfold State.applyUpdate
  dsimp only
  rw [show State.setSlot i (Slot.updated v a n (({ t with miso := m } : State).slotAt i)) { t with miso := m } =
    { State.setSlot i (Slot.updated v a n (t.slotAt i)) t with miso := m } from rfl]
  exact (congrArg _ (misoBlind_postIf _ _ _ _ m)).trans (misoBlind_postIf _ _ _ _ m)

/-! ## Commands -/

theorem State.onBody_corrected {s : State} {h : Handle} (f g : State → State) (hi : (s.slotAt h.slot).integrity = .single) :
    s.onBody h f g = g (s.corrected .command h.slot) := by
  rw [State.onBody_single _ _ hi, State.checkBody_corrected _ hi]

theorem State.onBody_lost {s : State} {h : Handle} (f g : State → State) (hh : h.slot < 512)
    (hi : (s.slotAt h.slot).integrity = .double) (he : (s.slotAt h.slot).state ≠ .empty) :
    s.onBody h f g = f (s.lostRecord .command h.slot) := by
  rw [State.onBody_double _ _ hi he, State.makeFaulted_eq _ hh]

theorem State.isCurrent_corrected {q : FaultSource} {s : State} {h : Handle} (hh : h.slot < 512) (hn : s.isCurrent h = true) :
    (s.corrected q h.slot).isCurrent h = true := by
  unfold State.isCurrent at *
  rw [State.slotAt_corrected _ hh]
  exact hn

theorem State.occupied_of_current {s : State} {h : Handle} (hn : s.isCurrent h = true) : (s.slotAt h.slot).state ≠ .empty := by
  intro h0
  simp [State.isCurrent, Slot.occupied, h0] at hn

/-- A corrected read of a body, and then the command on the clean body. -/
theorem State.onBody_again {s : State} {h : Handle} (f g : State → State) (hh : h.slot < 512)
    (hi : (s.slotAt h.slot).integrity = .single) : s.onBody h f g = (s.corrected .command h.slot).onBody h f g := by
  rw [State.onBody_corrected _ _ hi, State.onBody_clean _ _ (by rw [State.slotAt_corrected _ hh])]

theorem State.onRecord_again {s : State} {h : Handle} {f g : State → State} (hh : h.slot < 512) (hn : s.isCurrent h = true)
    (hf : (s.slotAt h.slot).state ≠ .faulted) (hg : g s = g (s.corrected .command h.slot)) :
    s.onRecord h f g = (s.corrected .command h.slot).onRecord h f g := by
  rw [State.onRecord_run _ _ hn hf, State.onRecord_run _ _ (State.isCurrent_corrected hh hn)
    (by rw [State.slotAt_corrected _ hh]; exact hf), hg]

/-- WRITE, MODIFY and RELEASE of a record with a single error go on as from the corrected state (R54). -/
theorem State.opWrite_corrected {s : State} {h : Handle} (v : List Byte) (now : Bool) (hh : h.slot < 512)
    (hn : s.isCurrent h = true) (hf : (s.slotAt h.slot).state ≠ .faulted) (hi : (s.slotAt h.slot).integrity = .single) :
    s.opWrite h v now = (s.corrected .command h.slot).opWrite h v now :=
  State.onRecord_again hh hn hf (State.onBody_again _ _ hh hi)

theorem State.opModify_corrected {s : State} {h : Handle} {p : Policy} (hh : h.slot < 512)
    (hn : s.isCurrent h = true) (hf : (s.slotAt h.slot).state ≠ .faulted) (hi : (s.slotAt h.slot).integrity = .single)
    (hx : ((s.slotAt h.slot).kind = some .exported && (decodeExport p).isNone) = false) :
    s.opModify h p = (s.corrected .command h.slot).opModify h p := by
  refine State.onRecord_again hh hn hf ?_
  rw [State.slotAt_corrected _ hh]
  dsimp only
  rw [hx, if_neg (by decide), if_neg (by decide)]
  exact State.onBody_again _ _ hh hi

theorem State.opRelease_corrected {s : State} {h : Handle} {e : HoldEntry} (hh : h.slot < 512)
    (hn : s.isCurrent h = true) (hf : (s.slotAt h.slot).state ≠ .faulted) (hi : (s.slotAt h.slot).integrity = .single)
    (hd : (s.slotAt h.slot).held = true) (he : s.holdOf h.slot = some e) (hu : e.update.isSome = true) :
    s.opRelease h true = (s.corrected .command h.slot).opRelease h true := by
  have hc := State.slotAt_corrected .command (s := s) hh
  rw [State.opRelease_held hn hf hd he,
    State.opRelease_held (State.isCurrent_corrected hh hn) (by rw [hc]; exact hf) (by rw [hc]; exact hd) he]
  unfold State.releaseHeld
  dsimp only
  rw [hu, if_pos (by rfl), if_pos (by rfl)]
  exact State.onBody_again _ _ hh hi

/-- WRITE, MODIFY and RELEASE of a record with a double error end with the record lost (R56). -/
theorem State.opWrite_lost {s : State} {h : Handle} (v : List Byte) (now : Bool) (hh : h.slot < 512)
    (hn : s.isCurrent h = true) (hf : (s.slotAt h.slot).state ≠ .faulted) (hi : (s.slotAt h.slot).integrity = .double) :
    s.opWrite h v now = (s.lostRecord .command h.slot).complete .faulted [] :=
  (State.onRecord_run _ _ hn hf).trans (State.onBody_lost _ _ hh hi (State.occupied_of_current hn))

theorem State.opModify_lost {s : State} {h : Handle} {p : Policy} (hh : h.slot < 512)
    (hn : s.isCurrent h = true) (hf : (s.slotAt h.slot).state ≠ .faulted) (hi : (s.slotAt h.slot).integrity = .double)
    (hx : ((s.slotAt h.slot).kind = some .exported && (decodeExport p).isNone) = false) :
    s.opModify h p = (s.lostRecord .command h.slot).complete .faulted [] := by
  refine (State.onRecord_run _ _ hn hf).trans ?_
  dsimp only
  rw [hx, if_neg (by decide)]
  exact State.onBody_lost _ _ hh hi (State.occupied_of_current hn)

theorem State.opRelease_lost {s : State} {h : Handle} {e : HoldEntry} (hh : h.slot < 512)
    (hn : s.isCurrent h = true) (hf : (s.slotAt h.slot).state ≠ .faulted) (hi : (s.slotAt h.slot).integrity = .double)
    (hd : (s.slotAt h.slot).held = true) (he : s.holdOf h.slot = some e) (hu : e.update.isSome = true) :
    s.opRelease h true = (s.lostRecord .command h.slot).complete .faulted [] := by
  rw [State.opRelease_held hn hf hd he]
  unfold State.releaseHeld
  dsimp only
  rw [hu, if_pos (by rfl)]
  exact State.onBody_lost _ _ hh hi (State.occupied_of_current hn)

theorem State.opRead_lost {s : State} {h : Handle} (hh : h.slot < 512)
    (hn : s.isCurrent h = true) (hf : (s.slotAt h.slot).state ≠ .faulted) (hi : (s.slotAt h.slot).integrity = .double) :
    s.opRead h = (s.lostRecord .command h.slot).answerDirectory h.slot :=
  (State.onRecord_run _ _ hn hf).trans (State.onBody_lost _ _ hh hi (State.occupied_of_current hn))

theorem misoBlind_onRecord {h : Handle} {f g : State → State} (hf : misoBlind f) (hg : misoBlind g) :
    misoBlind (State.onRecord h f g) := fun t m => by
  unfold State.onRecord
  rw [show ({ t with miso := m } : State).isCurrent h = t.isCurrent h from rfl,
    show ({ t with miso := m } : State).slotAt h.slot = t.slotAt h.slot from rfl]
  repeat' split
  · rfl
  · exact hf t m
  · exact hg t m

theorem misoBlind_makeFaulted (q : FaultSource) (i : Nat) : misoBlind (State.makeFaulted q i) := fun t m => by
  unfold State.makeFaulted
  rw [show (State.dropPublish (({ t with miso := m } : State).handleAt i)
      (State.dropHold i (State.modifySlot i (fun x => { x with state := .faulted }) { t with miso := m }))) =
    { State.dropPublish (t.handleAt i) (State.dropHold i (State.modifySlot i (fun x => { x with state := .faulted }) t)) with miso := m }
    from rfl, show ({ t with miso := m } : State).handleAt i = t.handleAt i from rfl, misoBlind_post]
  rfl

theorem misoBlind_checkBody (q : FaultSource) (i : Nat) : misoBlind (State.checkBody q i) := fun t m => by
  unfold State.checkBody
  rw [show ({ t with miso := m } : State).slotAt i = t.slotAt i from rfl]
  cases (t.slotAt i).integrity with
  | clean => rfl
  | single => rfl
  | double =>
    dsimp only
    split
    · rfl
    · exact misoBlind_makeFaulted q i t m

theorem misoBlind_onBody {h : Handle} {f g : State → State} (hf : misoBlind f) (hg : misoBlind g) :
    misoBlind (State.onBody h f g) := fun t m => by
  unfold State.onBody
  dsimp only
  rw [misoBlind_checkBody, show ({ t with miso := m } : State).bodyLost h.slot = t.bodyLost h.slot from rfl]
  split
  · exact hf _ m
  · exact hg _ m

theorem misoBlind_complete (code : ResultCode) (body : List Byte) : misoBlind (State.complete code body) := fun _ _ => rfl

theorem misoBlind_opWrite (h : Handle) (v : List Byte) (now : Bool) : misoBlind (State.opWrite h v now) :=
  misoBlind_onRecord (misoBlind_complete _ _) <| misoBlind_onBody (misoBlind_complete _ _) fun t m => by
    rw [show ({ t with miso := m } : State).slotAt h.slot = t.slotAt h.slot from rfl]
    dsimp only
    split <;> rfl

theorem misoBlind_opModify (h : Handle) (p : Policy) : misoBlind (State.opModify h p) :=
  misoBlind_onRecord (misoBlind_complete _ _) fun t m => by
    rw [show ({ t with miso := m } : State).slotAt h.slot = t.slotAt h.slot from rfl]
    dsimp only
    split
    · rfl
    · exact misoBlind_onBody (misoBlind_complete _ _) (fun _ _ => rfl) t m

theorem misoBlind_opRelease (h : Handle) (apply : Bool) : misoBlind (State.opRelease h apply) :=
  misoBlind_onRecord (misoBlind_complete _ _) fun t m => by
    rw [show ({ t with miso := m } : State).slotAt h.slot = t.slotAt h.slot from rfl]
    dsimp only
    split
    · rw [show ({ t with miso := m } : State).holdOf h.slot = t.holdOf h.slot from rfl]
      split
      · rename_i e _
        unfold State.releaseHeld
        dsimp only
        split
        · refine misoBlind_onBody (misoBlind_complete _ _) (fun u k => ?_) t m
          cases e.update with
          | none => rfl
          | some w =>
            show State.complete _ _ (State.dropHold _ (State.applyUpdate _ _ _ _ _)) = _
            rw [misoBlind_applyUpdate]
            rfl
        · rfl
      · rfl
    · split <;> rfl

/-- A free engine's command on a record whose error is corrected, once its operation does not read what has been clocked out. -/
theorem State.atEngine_corrected (n : Nat) (c : HostCommand) (q : FaultSource) (i : Nat) (s : State) :
    (s.atEngine n c).corrected q i = { (s.corrected q i).atEngine n c with miso := s.commandOut n } := rfl

/-- The loss of a record in a free engine's command, and its answer. -/
theorem State.atEngine_lost (n : Nat) (c : HostCommand) (q : FaultSource) (i : Nat) (code : ResultCode) (body : List Byte) (s : State) :
    ((s.atEngine n c).lostRecord q i).complete code body = (s.engineAnswered n code body).lostRecord q i := by
  have e : (s.atEngine n c).postsAlike (s.engineAnswered n code body) := ⟨rfl, rfl, rfl, fun _ => rfl⟩
  have e := State.postsAlike_post (s.handleAt i) .faulted e
  apply State.ext
  case slots => exact congrArg (fun b => Vector.setIfInBounds s.slots i { s.slotAt i with
    state := .faulted, held := false, missed := b }) (e.2.2.2 i)
  case notices => exact e.1
  case conditions => exact congrArg (fun c : Conditions => { c with faultUncorrectable := true }) e.2.1
  all_goals rfl

/-! ## Frames -/

/-- Lookup sees no integrity: the correction of a body leaves it as it is. -/
theorem State.lookup_corrected (q : FaultSource) (i : Nat) (s : State) (k : Key) : (s.corrected q i).lookup k = s.lookup k := by
  unfold State.lookup
  congr 1
  funext j
  by_cases h : j = i
  · subst h
    by_cases h5 : j < 512
    · rw [State.slotAt_corrected q h5]
      rfl
    · rw [State.slotAt_of_le _ (by omega), State.slotAt_of_le _ (by omega)]
  · rw [State.slotAt_corrected_ne q h]

/-- A taken frame that loses its record is REFUSED. -/
theorem State.takeFrame_lost (s : State) (l : LineId) (rest : List RxFrame) (q : FaultSource) (i : Nat) :
    ((s.takeFrame l rest).lostRecord q i).count l .refused = (s.frameRefused l rest).lostRecord q i := by
  have e : (s.takeFrame l rest).postsAlike (s.frameRefused l rest) := ⟨rfl, rfl, rfl, fun _ => rfl⟩
  have e := State.postsAlike_post (s.handleAt i) .faulted e
  apply State.ext
  case slots => exact congrArg (fun b => Vector.setIfInBounds s.slots i { s.slotAt i with
    state := .faulted, held := false, missed := b }) (e.2.2.2 i)
  case notices => exact e.1
  case conditions => exact congrArg (fun c : Conditions => { c with faultUncorrectable := true }) e.2.1
  case lines =>
    refine State.lines_ext fun k => ?_
    have h1 : (((s.takeFrame l rest).lostRecord q i).count l .refused).line k = _ := State.line_modifyLine _ l k _
    have h2 := State.line_lostRecord q i (s.frameRefused l rest) k
    have h3 : (s.frameRefused l rest).line k = _ := State.line_modifyLine (s.takeFrame l rest) l k (·.count .refused) |>.symm.trans
      (congrArg (fun t : State => t.line k) (State.takeFrame_frameRefused s l rest)) |>.symm
    refine h1.trans (Eq.trans ?_ h2.symm)
    rw [h3, State.line_lostRecord, State.line_lostRecord]
    split <;> rfl
  all_goals rfl

theorem State.bodyLost_single {s : State} {i : Nat} (hi : (s.slotAt i).integrity = .single) : s.bodyLost i = false := by
  simp [State.bodyLost, hi]

/-- A frame that finds a record with a single error goes on as from the corrected state (R54, R104). -/
theorem State.updateFound_corrected {s : State} {l : LineId} {i : Nat} (f : RxFrame) (h : i < 512)
    (hi : (s.slotAt i).integrity = .single) (hk : (s.slotAt i).kind ≠ some .exported) :
    s.updateFound l f i = (s.corrected (.line l) i).updateFound l f i := by
  have hc := State.slotAt_corrected (.line l) (s := s) h
  unfold State.updateFound
  rw [if_neg hk, if_neg (c := ((s.corrected (.line l) i).slotAt i).kind = some .exported) (by rw [hc]; exact hk)]
  dsimp only
  rw [State.checkBody_corrected _ hi, State.bodyLost_single hi, State.checkBody_clean _ (by rw [hc]), State.bodyLost_clean (by rw [hc])]

theorem State.queryFound_corrected {s : State} {l : LineId} {i : Nat} (f : RxFrame) (h : i < 512)
    (hi : (s.slotAt i).integrity = .single) : s.queryFound l f i = (s.corrected (.line l) i).queryFound l f i := by
  have hc := State.slotAt_corrected (.line l) (s := s) h
  unfold State.queryFound
  dsimp only
  rw [State.checkBody_corrected _ hi, State.bodyLost_single hi, State.checkBody_clean _ (by rw [hc]), State.bodyLost_clean (by rw [hc])]

theorem State.withdrawFound_corrected {s : State} {l : LineId} {i : Nat} (f : RxFrame) (h : i < 512)
    (hi : (s.slotAt i).integrity = .single) (hk : (s.slotAt i).kind = some .learned) (hd : (s.slotAt i).held = false) :
    s.withdrawFound l f i = (s.corrected (.line l) i).withdrawFound l f i := by
  have hc := State.slotAt_corrected (.line l) (s := s) h
  have judged : ((s.slotAt i).kind = some .learned && !(s.slotAt i).held) = true := by simp [hk, hd]
  have again : (((s.corrected (.line l) i).slotAt i).kind = some .learned && !((s.corrected (.line l) i).slotAt i).held) = true := by
    rw [hc]
    exact judged
  unfold State.withdrawFound
  rw [judged, again, if_pos rfl, if_pos rfl]
  dsimp only
  rw [State.checkBody_corrected _ hi, State.bodyLost_single hi, State.checkBody_clean _ (by rw [hc]), State.bodyLost_clean (by rw [hc])]

/-- A frame that finds a record with a double error is REFUSED with the record lost (R56, R104). -/
theorem State.updateFound_lost {s : State} {l : LineId} {i : Nat} (f : RxFrame) (h : i < 512) (he : (s.slotAt i).state ≠ .empty)
    (hi : (s.slotAt i).integrity = .double) (hk : (s.slotAt i).kind ≠ some .exported) :
    s.updateFound l f i = (s.lostRecord (.line l) i).count l .refused := by
  unfold State.updateFound
  rw [if_neg hk]
  dsimp only
  rw [if_pos (State.bodyLost_iff.2 hi), State.checkBody_double _ hi he, State.makeFaulted_eq _ h]

theorem State.queryFound_lost {s : State} {l : LineId} {i : Nat} (f : RxFrame) (h : i < 512) (he : (s.slotAt i).state ≠ .empty)
    (hi : (s.slotAt i).integrity = .double) : s.queryFound l f i = (s.lostRecord (.line l) i).count l .refused := by
  unfold State.queryFound
  dsimp only
  rw [if_pos (State.bodyLost_iff.2 hi), State.checkBody_double _ hi he, State.makeFaulted_eq _ h]

theorem State.withdrawFound_lost {s : State} {l : LineId} {i : Nat} (f : RxFrame) (h : i < 512) (he : (s.slotAt i).state ≠ .empty)
    (hi : (s.slotAt i).integrity = .double) (hk : (s.slotAt i).kind = some .learned) (hd : (s.slotAt i).held = false) :
    s.withdrawFound l f i = (s.lostRecord (.line l) i).count l .refused := by
  unfold State.withdrawFound
  rw [if_pos (by simp [hk, hd])]
  dsimp only
  rw [if_pos (State.bodyLost_iff.2 hi), State.checkBody_double _ hi he, State.makeFaulted_eq _ h]

/-- The take of a frame and the correction of a body do not meet. -/
theorem State.takeFrame_corrected (s : State) (l : LineId) (rest : List RxFrame) (q : FaultSource) (i : Nat) :
    (s.takeFrame l rest).corrected q i = (s.corrected q i).takeFrame l rest := rfl

end Sys2Proof.Machine
end

