-- ==== Sys2Proof/Laws/PerInstr.lean ====
section
/-! SUPPORT. A fact about every command as syntax, one lemma per constructor: which commands go over the port as a COMMAND. -/

namespace Sys2Proof.Laws.Encoding

open Sys2Proof.Machine

/-- A command has a command code exactly when its transaction begins with the type byte of a COMMAND (R181). -/
def Statement (i : Instr) : Prop := hostCommandOf i = ((encodeTransaction i).bind List.head? == some 0xA1)

theorem powerOnReset : Statement .powerOnReset := rfl
theorem pinReset : Statement .pinReset := rfl
theorem resetNRelease : Statement .resetNRelease := rfl
theorem startupComplete : Statement .startupComplete := rfl
theorem upset (slot : Nat) : Statement (.upset slot) := rfl
theorem status (count : Nat) : Statement (.status count) := rfl
theorem result (count : Nat) : Statement (.result count) := rfl
theorem discardedTransaction (clocked : List Byte) (strayBits : Nat) : Statement (.discardedTransaction clocked strayBits) := rfl
theorem tableCommandOperation : Statement .tableCommandOperation := rfl
theorem create (region : Byte) (key : KeyArg) (policy : PolicyArg) : Statement (.create region key policy) := rfl
theorem find (key : KeyArg) : Statement (.find key) := rfl
theorem read (handle : HandleArg) : Statement (.read handle) := rfl
theorem write (handle : HandleArg) (value : ValueArg) (publishNow : Byte) : Statement (.write handle value publishNow) := rfl
theorem modify (handle : HandleArg) (policy : PolicyArg) : Statement (.modify handle policy) := rfl
theorem retire (handle : HandleArg) : Statement (.retire handle) := rfl
theorem hold (handle : HandleArg) (limit : Byte) : Statement (.hold handle limit) := rfl
theorem release (handle : HandleArg) (choice : Byte) : Statement (.release handle choice) := rfl
theorem setLayout (bound learned exported : Half) : Statement (.setLayout bound learned exported) := rfl
theorem purge (regions line filter faultedToo : Byte) : Statement (.purge regions line filter faultedToo) := rfl
theorem purgeVisit : Statement .purgeVisit := rfl
theorem setClass (fields : ClassArg) : Statement (.setClass fields) := rfl
theorem setMask (number : Byte) (mask : Tri) : Statement (.setMask number mask) := rfl
theorem readClass (copy number : Byte) : Statement (.readClass copy number) := rfl
theorem commitClasses : Statement .commitClasses := rfl
theorem setShares (fieldShare sweepShare : Byte) : Statement (.setShares fieldShare sweepShare) := rfl
theorem setLine (fields : LineArg) : Statement (.setLine fields) := rfl
theorem readLine (line : Byte) : Statement (.readLine line) := rfl
theorem readCounters (line clear : Byte) : Statement (.readCounters line clear) := rfl
theorem lineHold (line : Byte) (duration : Half) (restart : Byte) : Statement (.lineHold line duration restart) := rfl
theorem lineAbort (line : Byte) : Statement (.lineAbort line) := rfl
theorem setTiming (period : Byte) (expiry : Half) : Statement (.setTiming period expiry) := rfl
theorem readTiming : Statement .readTiming := rfl
theorem popNotice : Statement .popNotice := rfl
theorem scanMissed (start : Half) : Statement (.scanMissed start) := rfl
theorem setNotice (threshold holdOff : Byte) : Statement (.setNotice threshold holdOff) := rfl
theorem setRoutes (routes : RoutesArg) : Statement (.setRoutes routes) := rfl
theorem clearConditions (flags : Byte) : Statement (.clearConditions flags) := rfl
theorem readFault : Statement .readFault := rfl
theorem clearFault : Statement .clearFault := rfl
theorem requestMode (target : Byte) : Statement (.requestMode target) := rfl
theorem reset : Statement .reset := rfl
theorem softReset : Statement .softReset := rfl
theorem immediateTransition : Statement .immediateTransition := rfl
theorem drainStart : Statement .drainStart := rfl
theorem drainEnd : Statement .drainEnd := rfl
theorem wakeEvent (line : LineId) : Statement (.wakeEvent line) := rfl
theorem resumeComplete : Statement .resumeComplete := rfl
theorem tick : Statement .tick := rfl
theorem sweepVisit : Statement .sweepVisit := rfl
theorem update (line : LineId) : Statement (.update line) := rfl
theorem query (line : LineId) : Statement (.query line) := rfl
theorem withdraw (line : LineId) : Statement (.withdraw line) := rfl
theorem restartPurge (line : LineId) : Statement (.restartPurge line) := rfl
theorem noticeHoldOffExpiry : Statement .noticeHoldOffExpiry := rfl
theorem dataFrameDelivery (line : LineId) : Statement (.dataFrameDelivery line) := rfl
theorem pause (line : LineId) : Statement (.pause line) := rfl
theorem resume (line : LineId) : Statement (.resume line) := rfl
theorem pauseDeadlineExpiry (line : LineId) : Statement (.pauseDeadlineExpiry line) := rfl
theorem badFrame (line : LineId) (heard : WireChar) : Statement (.badFrame line heard) := rfl
theorem truncatedFrame (line : LineId) : Statement (.truncatedFrame line) := rfl
theorem overlongFrame (line : LineId) : Statement (.overlongFrame line) := rfl
theorem lineBreak (line : LineId) : Statement (.lineBreak line) := rfl
theorem receiverIdleGap (line : LineId) : Statement (.receiverIdleGap line) := rfl
theorem frameStart (line : LineId) : Statement (.frameStart line) := rfl
theorem frameSent (line : LineId) : Statement (.frameSent line) := rfl
theorem collision (line : LineId) : Statement (.collision line) := rfl
theorem backoffRetry (line : LineId) : Statement (.backoffRetry line) := rfl
theorem lineHoldEnd (line : LineId) : Statement (.lineHoldEnd line) := rfl
theorem characterReceived (line : LineId) (heard : WireChar) : Statement (.characterReceived line heard) := rfl

end Sys2Proof.Laws.Encoding
end

