-- ==== Sys2Proof/Tests/Slice0.lean ====
section
/-! SUPPORT. Tests: the checks of WellFormed, the formats of chapter 12, small steps of each family, and for every statement
with hypotheses a state and operands that meet them, clause by clause. -/

namespace Sys2Proof.Tests

open Sys2Proof.Machine

set_option Elab.async false

/-! ## Ill-formed commands are refused, well-formed ones at the boundary pass -/

theorem test_illFormed_upset : (Instr.upset 512).wellFormed = false ∧ (Instr.upset 511).wellFormed = true := by decide
theorem test_illFormed_status_none : (Instr.status 0).wellFormed = false ∧ (Instr.status 1).wellFormed = true := by decide
theorem test_illFormed_status_long : (Instr.status 6).wellFormed = false ∧ (Instr.status 5).wellFormed = true := by decide
theorem test_illFormed_result : (Instr.result 1).wellFormed = false ∧ (Instr.result 2).wellFormed = true := by decide
theorem test_illFormed_stray : (Instr.discardedTransaction [0xA0] 8).wellFormed = false ∧
    (Instr.discardedTransaction [0xA0] 7).wellFormed = true := by decide

theorem test_illFormed_start_bit : (Instr.characterReceived 0 1).wellFormed = false ∧
    (Instr.characterReceived 0 0x7FE).wellFormed = true ∧ (Instr.badFrame 0 1).wellFormed = false ∧
    (Instr.badFrame 0 0x400).wellFormed = true := by decide

/-! ## Formats -/

/-- Characters written out level by level from R62, the last level first: stop bit, parity bit, data bits 7 to 0, start bit. -/
theorem test_characters :
    wireChar 0xA1 = 0b11_10100001_0#11 ∧ wireChar 0x03 = 0b10_00000011_0#11 ∧ readCharacter 0b11_10100001_0#11 = .good 0xA1 ∧
    readCharacter 0b10_10100001_0#11 = .error ∧ readCharacter 0b01_10100001_0#11 = .error ∧ readCharacter 0 = .lineLow ∧
    readCharacter 0x7FF = .silence := by decide

/-- The check value of R180: the CRC of the nine characters 1 to 9. -/
theorem test_crc_check_value : crc [0x31, 0x32, 0x33, 0x34, 0x35, 0x36, 0x37, 0x38, 0x39] = 0x29B1 := by decide +kernel

/-- A frame laid out by hand from R179 (source 33, UPDATE, identifier 0x30210, two bytes) is judged what it says; from the part's
own address, or with a bit changed, it is bad (R64). -/
theorem test_frame_judged :
    judgeFrame 126 ([33, 0x13, 0x02, 0x10, 2, 0xAB, 0xCD] ++ halfBytes (crc [33, 0x13, 0x02, 0x10, 2, 0xAB, 0xCD])) =
      some { kind := .update, source := 33, ident := 0x30210, payload := [0xAB, 0xCD] } ∧
    judgeFrame 33 ([33, 0x13, 0x02, 0x10, 2, 0xAB, 0xCD] ++ halfBytes (crc [33, 0x13, 0x02, 0x10, 2, 0xAB, 0xCD])) = none ∧
    judgeFrame 126 ([33, 0x13, 0x02, 0x11, 2, 0xAB, 0xCD] ++ halfBytes (crc [33, 0x13, 0x02, 0x10, 2, 0xAB, 0xCD])) = none := by
  decide +kernel

/-- A reply laid out by hand (R179): kind 6 over identifier 0xABCDE. -/
theorem test_frame_built : (buildFrame .reply 126 0xABCDE [7]).take 6 = [126, 0x6A, 0xBC, 0xDE, 1, 7] ∧
    (buildFrame .pause 126 0 []).length = 7 := by decide +kernel

/-- Transactions written out byte by byte from R181 and R182. -/
theorem test_transactions_read :
    readTransaction [0xA0, 0, 0] = some (.status 3) ∧ readTransaction [0xA0, 0, 0, 0, 0, 0] = none ∧
    readTransaction [0xA2] = none ∧ readTransaction [0xA2, 0] = some (.result 2) ∧
    readTransaction [0xA1, 0x12, 0x01, 0xFF, 0x09] = some (.read { slot := 0x1FF, gen := 9 }) ∧
    readTransaction [0xA1, 0x12, 0x01, 0xFF] = none ∧
    readTransaction [0xA1, 0x11, 0xFF, 0x03, 0x02, 0x10, 0x08, 0x00, 0x02] =
      some (.find { line := 0xFF, ident := 0x030210, selLen := 8, selVal := 2 }) ∧
    readTransaction [0xA1, 0x33, 2, 0x01, 0x2C, 1] = some (.lineHold 2 300 1) ∧
    readTransaction [0xA1, 0x38, 25, 0x17, 0x70] = some (.setTiming 25 6000) ∧
    readTransaction [0xA1, 0x40] = some .popNotice ∧ readTransaction [0xA1, 0x50, 2] = some (.requestMode 2) ∧
    readTransaction [0xA1, 0x5F] = some .reset ∧ readTransaction [0xA1, 0x1A] = none ∧ readTransaction [0xA3] = none := by
  decide +kernel

/-! ## Small states -/

/-- The part just started: CONFIG, nothing in it. -/
def config : State := { State.reset with startup := .complete, mode := .config, target := .config }

/-- The part in a mode, nothing in it. -/
def inMode (m : Mode) : State := { config with mode := m, target := m }

/-- STANDBY, entered from a mode. -/
def standbyFrom (m : Mode) : State := { inMode .standby with origin := some m }

/-- A key, its bytes, and the policy of a record, with and without the fields of an export record. -/
def key0 : Key := { line := none, ident := 0x30210, selLen := 8, selVal := 2 }
def keyBytes0 : KeyArg := { line := 0xFF, ident := 0x030210, selLen := 8, selVal := 2 }
def policy0 : Policy := { limit := 200, owner := some 33, updateNotice := .change, edge := true, period := 50, lineSet := 0x5, priority := 3 }
def policyBytes0 : PolicyArg :=
  { limit := 200, owner := 33, updateNotice := 1, edgeNotice := 1, period := 50, lineSet := 0x5, priority := 3 }

/-- A FRESH record of a kind, with a body's fields at small values. -/
def record (k : Kind) : Slot :=
  { Slot.reset with
    state := .fresh, kind := some k, gen := 1, key := some key0,
    body := { Body.empty with
      value := some [2, 0x10], stamp := 5, limit := 10, updateNotice := .change, edge := true, originNode := 33, lineSet := 0x5,
      priority := 3, period := 50 } }

/-- A record with an error in its body. -/
def broken (i : Integrity) (x : Slot) : Slot := { x with integrity := i }

/-- The handle of that record in slot 0, as it is clocked in, and one that is not current. -/
def handle0 : HandleArg := { slot := 0, gen := 1 }
def stale0 : HandleArg := { slot := 0, gen := 2 }

/-- A state with a record in slot 0. -/
def holding (k : Kind) (m : Mode) : State := (inMode m).withSlot 0 (record k)

/-- A value as it is clocked in, and what it stands for. -/
def value0 : ValueArg := { len := 2, d0 := 7, d1 := 9, d2 := 0, d3 := 0, d4 := 0, d5 := 0, d6 := 0, d7 := 0 }

/-- A hold entry on slot 0, with and without a pending update. -/
def update0 : PendingUpdate := { value := [1], source := 33, stamp := 8 }
def hold0 (u : Option PendingUpdate) : HoldEntry := { slot := 0, gen := 1, start := 3, limit := 40, update := u, superseded := 2 }

/-- The record of slot 0, held. -/
def held (u : Option PendingUpdate) : State :=
  { (inMode .run).withSlot 0 { record .bound with held := true } with holds := [hold0 u] }

/-- A line with its settings changed, in a state. -/
def enabled0 : LineSettings := { LineSettings.reset with enabled := true, wake := true }
def withLine0 (f : LineState → LineState) (s : State) : State := s.withLine 0 (f { s.line 0 with settings := enabled0 })

/-- A frame for the key of the small record, of a kind. -/
def frame (k : FrameKind) : RxFrame := { kind := k, source := 33, ident := 0x30210, payload := [2, 0x10] }

/-- A class for that frame, with a disposition. -/
def class0 (d : Disposition) : AccClass :=
  { AccClass.reset with enabled := true, lines := 0xF, compare := 0x30210, selLen := 8, disposition := d, limit := 100 }

/-- A class set whose only class is that. -/
def classes (d : Disposition) : ClassSet := { ClassSet.reset with classes := ClassSet.reset.classes.set 0 (class0 d) }

/-- A frame at the head of line 0's queue, a slot 0, the class set of a disposition; and the small frame of a kind there. -/
def arrivedAs (f : RxFrame) (x : Slot) (d : Disposition) (m : Mode) : State :=
  { withLine0 (fun ln => { ln with rxQueue := [f] }) ((inMode m).withSlot 0 x) with active := classes d }
def arrived (k : FrameKind) (x : Slot) (d : Disposition) (m : Mode) : State := arrivedAs (frame k) x d m

/-- A frame of a kind whose payload is shorter than the selector of that class. -/
def short (k : FrameKind) : RxFrame := { frame k with payload := [] }

/-- A sweep in flight at a slot. -/
def sweeping (pos : Nat) (x : Slot) : State :=
  { (inMode .run).withSlot pos x with sweep := some { now := 200, pos := pos }, tick := 210 }

/-- The result code that the command slot shows. -/
def code : Answer → Option ResultCode
  | .next s => (match s.slot with
    | .done c _ => some c
    | _ => none)
  | _ => none

/-! ## Searches of those states -/

/-- A state with no slot written holds nothing. -/
theorem slotAt_empty {s : State} (h : s.slots = Vector.replicate 512 Slot.reset) (i : Nat) : s.slotAt i = Slot.reset := by
  by_cases hi : i < 512
  · simp [State.slotAt, h, hi]
  · exact State.slotAt_of_le _ (by omega)

/-- A key that one record does not overlap is free in a table that holds that record alone. -/
theorem keyFree_one {s : State} (h : s.slots = Vector.replicate 512 Slot.reset) (i : Nat) (x : Slot) (k : Key)
    (hx : x.matchesKey k = false) : (s.withSlot i x).keyFree k = true := by
  have e : ∀ j, ((s.withSlot i x).slotAt j).matchesKey k = false := fun j => by
    rw [show (s.withSlot i x).slotAt j = _ from State.slotAt_setSlot s i j x]
    split
    · exact hx
    · rw [slotAt_empty h]
      rfl
  simp [State.keyFree, e]

/-- What holds of every slot of a table, and of a slot written, holds of every slot after the write. -/
theorem slotAt_all {s : State} {P : Slot → Prop} (h : ∀ i, P (s.slotAt i)) (i : Nat) {x : Slot} (hx : P x) (j : Nat) :
    P ((s.withSlot i x).slotAt j) := by
  rw [show (s.withSlot i x).slotAt j = _ from State.slotAt_setSlot s i j x]
  split
  · exact hx
  · exact h j

/-- No slot of an empty table matches a key. -/
theorem matches_none {s : State} (h : s.slots = Vector.replicate 512 Slot.reset) (k : Key) (i : Nat) :
    (s.slotAt i).matchesKey k = false := by
  rw [slotAt_empty h]
  rfl

/-- A key that no slot has is not found. -/
theorem lookup_none {s : State} {k : Key} (h : ∀ i, (s.slotAt i).matchesKey k = false) : s.lookup k = none := by
  simp [State.lookup, h]

/-- No record is found where the only slot written does not match. -/
theorem lookup_arrivedAs (f : RxFrame) (x : Slot) (d : Disposition) (m : Mode) (k : Key) (hx : x.matchesKey k = false) :
    (arrivedAs f x d m).lookup k = none :=
  lookup_none (s := arrivedAs f x d m) (slotAt_all (s := inMode m) (P := fun y => y.matchesKey k = false) (matches_none rfl k) 0 hx)

/-- A key is free in a table that holds nothing. -/
theorem keyFree_none {s : State} (h : s.slots = Vector.replicate 512 Slot.reset) (k : Key) : s.keyFree k = true := by
  have e : ∀ j, (s.slotAt j).matchesKey k = false := fun j => by rw [slotAt_empty h]; rfl
  simp [State.keyFree, e]

/-! ## Each statement's hypotheses are met: the block and the port -/

theorem witness_StepRunsTheFrontCommand : ({ config with pending := [.tick, .reset] } : State).pending = .tick :: [.reset] := rfl

theorem witness_AStepOnAnEmptyQueueIsOneMillisecond :
    (config.pending = [] ∧ ({ config with resetHeld := true } : State).resetHeld = true) ∧
    (config.resetHeld = false ∧ (∀ l, (config.line l).drivesBreak = false) ∧ config.takesFrames = false) ∧
    (let s := { inMode .run with prescale := 8 }
     s.pending = [] ∧ s.resetHeld = false ∧ (∀ l, (s.line l).drivesBreak = false) ∧ s.takesFrames = true ∧
       s.prescale + 1 < s.tickPeriod) ∧
    (let s := { inMode .run with prescale := 9 }
     s.pending = [] ∧ s.resetHeld = false ∧ (∀ l, (s.line l).drivesBreak = false) ∧ s.takesFrames = true ∧
       s.tickPeriod ≤ s.prescale + 1) ∧
    (∀ h ∈ [LineHold.off, .breaking 65535 true, .breaking 2 false, .breaking 1 true, .breaking 0 true],
      let s := withLine0 (fun ln => { ln with hold := h }) (inMode .run)
      s.pending = [] ∧ s.resetHeld = false ∧ s.prescale + 1 < s.tickPeriod ∧ (s.line 0).hold = h) := by decide +kernel

theorem witness_NothingHappensWhileResetIsHeld :
    ({ config with resetHeld := true } : State).resetHeld = true ∧ Instr.tick ≠ .powerOnReset ∧ Instr.tick ≠ .pinReset ∧
    Instr.tick ≠ .resetNRelease := by decide +kernel

theorem witness_ResetsAndStartUp :
    ({ State.reset with resetHeld := true } : State).resetHeld = true ∧ State.reset.resetHeld = false ∧
    State.reset.mode = .starting := by decide +kernel

theorem witness_StatusAndResultTransactions :
    config.resetHeld = false ∧ (1 ≤ 1 ∧ 1 ≤ 5) ∧ (1 ≤ 5 ∧ 5 ≤ 5) ∧ 2 ≤ 2 ∧
    ({ config with slot := .done .ok [1] } : State).slot = .done .ok [1] ∧ (∀ code body, config.slot ≠ .done code body) := by
  refine ⟨rfl, by decide, by decide, by decide, rfl, fun _ _ h => ?_⟩
  cases h

theorem witness_TransactionsTurnedAwaySetOnlyTheRefusedBit :
    config.resetHeld = false ∧ State.reset.resetHeld = false ∧ [(0xA0 : Byte)] ≠ [] ∧ 7 ≠ 0 ∧
    fitsType [0xA0, 0, 0, 0, 0, 0] = false ∧ fitsType [0xA3] = false ∧
    ([0xA1, 0x39] : List Byte).head? = some 0xA1 ∧ State.reset.portClosed = true := by decide +kernel

theorem witness_AClosedPortRefusesEveryCommand :
    hostCommandOf .readTiming = true ∧ State.reset.resetHeld = false ∧ State.reset.mode = .starting ∧
    (∃ h, ({ config with slot := .pending .reset } : State).slot = .pending h) := ⟨rfl, rfl, rfl, _, rfl⟩

theorem witness_StandbyAnswersWrongMode :
    hostCommandOf .readFault = true ∧ (∀ t, Instr.readFault ≠ .requestMode t) ∧ Instr.readFault ≠ .reset ∧
    (standbyFrom .run).portOpen = true ∧ (standbyFrom .run).mode = .standby := by
  refine ⟨rfl, fun _ h => ?_, by decide, by decide +kernel, rfl⟩
  cases h

/-! ## Record commands -/

theorem witness_CreateMakesANewRecord :
    ((config.servesHost = true ∧ config.engineFree = true ∧ config.layout.b + config.layout.l + config.layout.e = 512 ∧
      decodeKey keyBytes0 = some key0 ∧ decodePolicy policyBytes0 = some policy0 ∧
      (config.slotAt 0).state = .empty ∧ config.layout.kindAt 0 = .bound ∧ (config.slotAt 448).state = .empty ∧
      decodeExport policy0 = some (0x5, 3) ∧ config.layout.kindAt 448 = .exported ∧
      ∀ j < 448, config.layout.kindAt j = .exported → (config.slotAt j).state ≠ .empty) ∧ config.keyFree key0 = true) ∧
    (let s := (inMode .run).withSlot 0 { record .bound with key := some { key0 with ident := 1 } }
     (s.servesHost = true ∧ s.engineFree = true ∧ (s.slotAt 1).state = .empty ∧
       ∀ j < 1, s.layout.kindAt j = .bound → (s.slotAt j).state ≠ .empty) ∧ s.keyFree key0 = true) :=
  ⟨⟨by decide +kernel, keyFree_none rfl _⟩, by decide +kernel, keyFree_one rfl 0 _ _ (by decide)⟩

theorem witness_CreateIsRefused :
    (config.servesHost = true ∧ decodeCreate 2 keyBytes0 policyBytes0 = none) ∧
    decodeCreate 1 keyBytes0 policyBytes0 = some (.create false key0 policy0) ∧
    ((holding .bound .run).servesHost = true ∧ (holding .bound .run).engineFree = true ∧ (holding .bound .run).keyFree key0 = false) ∧
    (let s := { config with layout := { b := 0, l := 64, e := 448 } }
     (s.servesHost = true ∧ s.engineFree = true ∧ s.layout.b + s.layout.l + s.layout.e = 512 ∧
       ∀ i < 512, s.layout.kindAt i = createdKind false → (s.slotAt i).state ≠ .empty) ∧ s.keyFree key0 = true) :=
  ⟨by decide +kernel, by decide +kernel, by decide +kernel, by decide +kernel, keyFree_none rfl _⟩

theorem witness_FindReportsTheLowestOverlap :
    (config.servesHost = true ∧ config.engineFree = true ∧ decodeKey keyBytes0 = some key0 ∧
      decodeKey { keyBytes0 with selLen := 17 } = none) ∧ config.keyFree key0 = true ∧
    (let s := (holding .bound .run).withSlot 511 (record .exported)
     s.servesHost = true ∧ s.engineFree = true ∧ (s.slotAt 0).matchesKey key0 = true) ∧
    (let s := (inMode .listen).withSlot 3 (record .exported)
     s.servesHost = true ∧ s.engineFree = true ∧ (s.slotAt 3).matchesKey key0 = true ∧
       ∀ j < 3, (s.slotAt j).matchesKey key0 = false) :=
  ⟨by decide +kernel, keyFree_none rfl _, by decide +kernel, by decide +kernel⟩

theorem witness_ReadReturnsTheRecordImage :
    (let s := holding .bound .run
     s.servesHost = true ∧ s.engineFree = true ∧ s.names handle0 = true ∧ (s.slotAt 0).state ≠ .faulted ∧
       (s.slotAt 0).integrity = .clean) ∧
    (let s := config.withSlot 511 { record .exported with state := .faulted }
     s.servesHost = true ∧ s.engineFree = true ∧ s.names { slot := 511, gen := 1 } = true ∧
       (s.slotAt (511 : Half).toNat).state = .faulted) := by decide +kernel

theorem witness_WriteSetsTheValue :
    (let s := holding .bound .run
     s.servesHost = true ∧ s.engineFree = true ∧ handle0.slot.toNat < 512 ∧ s.names handle0 = true ∧
       decodeValue value0 = some [7, 9] ∧ (s.slotAt 0).state ≠ .faulted ∧ (s.slotAt 0).integrity = .clean ∧
       (s.slotAt 0).kind ≠ some .exported) ∧
    (let s := holding .exported .listen
     s.servesHost = true ∧ s.engineFree = true ∧ s.names handle0 = true ∧ (s.slotAt 0).integrity = .clean ∧ s.mode ≠ .run) ∧
    decodeValue { value0 with len := 8 } = some [7, 9, 0, 0, 0, 0, 0, 0] ∧ decodeValue { value0 with len := 0 } = some [] ∧
    decodeValue { value0 with len := 9 } = none := by decide +kernel

theorem witness_WriteSetsTheValue_errors :
    ∀ i ∈ [Integrity.single, .double], ∀ k ∈ [Kind.learned, .exported],
      let s := (inMode .run).withSlot 0 (broken i (record k))
      s.servesHost = true ∧ s.engineFree = true ∧ s.names handle0 = true ∧ decodeValue value0 = some [7, 9] ∧
        (s.slotAt 0).state ≠ .faulted ∧ (s.slotAt 0).integrity = i := by decide +kernel

theorem witness_WriteWithPublishNowPublishes :
    let s := holding .exported .run
    s.servesHost = true ∧ s.engineFree = true ∧ handle0.slot.toNat < 512 ∧ s.names handle0 = true ∧
      decodeValue value0 = some [7, 9] ∧ (s.slotAt 0).state ≠ .faulted ∧ (s.slotAt 0).integrity = .clean ∧
      (s.slotAt 0).kind = some .exported ∧ s.mode = .run := by decide +kernel

theorem witness_ModifyChangesThePolicies :
    decodePolicy policyBytes0 = some policy0 ∧
    (let s := holding .learned .run
     s.servesHost = true ∧ s.engineFree = true ∧ s.names handle0 = true ∧ (s.slotAt 0).state ≠ .faulted ∧
       (s.slotAt 0).integrity = .clean ∧ (s.slotAt 0).kind ≠ some .exported) ∧
    (let s := holding .exported .run
     s.servesHost = true ∧ s.engineFree = true ∧ s.names handle0 = true ∧ (s.slotAt 0).kind = some .exported ∧
       decodeExport policy0 = some (0x5, 3) ∧ decodeExport { policy0 with priority := 4 } = none ∧
       decodePolicy { policyBytes0 with priority := 4 } = some { policy0 with priority := 4 }) := by decide +kernel

theorem witness_ModifyChangesThePolicies_errors :
    ∀ i ∈ [Integrity.single, .double], ∀ k ∈ [Kind.bound, .exported],
      let s := (inMode .run).withSlot 0 (broken i (record k))
      s.servesHost = true ∧ s.engineFree = true ∧ s.names handle0 = true ∧ decodePolicy policyBytes0 = some policy0 ∧
        (s.slotAt 0).state ≠ .faulted ∧ (s.slotAt 0).integrity = i ∧
        ((s.slotAt 0).kind ≠ some .exported ∨ decodeExport policy0 ≠ none) := by decide +kernel

theorem witness_RetireEmptiesTheSlot :
    let s := holding .learned .listen
    s.servesHost = true ∧ s.engineFree = true ∧ handle0.slot.toNat < 512 ∧ s.names handle0 = true ∧ s.names stale0 = false := by
  decide +kernel

theorem witness_HoldAddsAnEntry :
    (let s := holding .bound .run
     s.servesHost = true ∧ s.engineFree = true ∧ handle0.slot.toNat < 512 ∧ (1 : Byte) ≠ 0 ∧ s.names stale0 = false ∧
       s.names handle0 = true ∧ (s.slotAt 0).state ≠ .faulted ∧ (s.slotAt 0).held = false ∧ s.holds.length < 16) ∧
    (let s := (inMode .listen).withSlot 0 { record .bound with state := .faulted }
     s.servesHost = true ∧ s.engineFree = true ∧ s.names handle0 = true ∧ (s.slotAt 0).state = .faulted) ∧
    (let s := held none
     s.servesHost = true ∧ s.engineFree = true ∧ s.names handle0 = true ∧ (s.slotAt 0).state ≠ .faulted ∧
       (s.slotAt 0).held = true) ∧
    (let s := { holding .bound .run with holds := List.replicate 16 (hold0 none) }
     s.servesHost = true ∧ s.engineFree = true ∧ s.names handle0 = true ∧ (s.slotAt 0).held = false ∧ 16 ≤ s.holds.length) := by
  decide +kernel

theorem witness_ReleaseEndsAHold :
    (let s := held none
     s.servesHost = true ∧ s.engineFree = true ∧ s.names handle0 = true ∧ (s.slotAt 0).state ≠ .faulted ∧
       (s.slotAt 0).held = true ∧ s.holdOf 0 = some (hold0 none)) ∧
    (let s := held (some update0)
     s.servesHost = true ∧ s.engineFree = true ∧ s.names handle0 = true ∧ (s.slotAt 0).state ≠ .faulted ∧
       (s.slotAt 0).held = true ∧ s.holdOf 0 = some (hold0 (some update0)) ∧ (s.slotAt 0).integrity = .clean) ∧
    (let s := (inMode .run).withSlot 0 { record .bound with expiredHold := true }
     s.servesHost = true ∧ s.engineFree = true ∧ s.names handle0 = true ∧ (s.slotAt 0).held = false ∧
       (s.slotAt 0).expiredHold = true) ∧
    (let s := holding .bound .run
     s.names handle0 = true ∧ (s.slotAt 0).held = false ∧ (s.slotAt 0).expiredHold = false) := by decide +kernel

theorem witness_ReleaseEndsAHold_errors :
    ∀ i ∈ [Integrity.single, .double],
      let s := { (inMode .run).withSlot 0 (broken i { record .bound with held := true }) with holds := [hold0 (some update0)] }
      s.servesHost = true ∧ s.engineFree = true ∧ s.names handle0 = true ∧ (s.slotAt 0).state ≠ .faulted ∧
        (s.slotAt 0).held = true ∧ s.holdOf 0 = some (hold0 (some update0)) ∧ (hold0 (some update0)).update = some update0 ∧
        (s.slotAt 0).integrity = i := by decide +kernel

theorem witness_StaleAndFaultedHandlesAreRefused_arguments :
    config.servesHost = true ∧ 511 < ({ handle0 with slot := 512 } : HandleArg).slot.toNat ∧
    8 < ({ value0 with len := 9 } : ValueArg).len.toNat ∧ 1 < (2 : Byte).toNat ∧
    126 < ({ policyBytes0 with owner := 127 } : PolicyArg).owner.toNat ∧
    2 < ({ policyBytes0 with updateNotice := 3 } : PolicyArg).updateNotice.toNat ∧
    1 < ({ policyBytes0 with edgeNotice := 2 } : PolicyArg).edgeNotice.toNat := by decide +kernel

theorem witness_StaleAndFaultedHandlesAreRefused :
    (decodeValue value0).isSome = true ∧ (decodePolicy policyBytes0).isSome = true ∧
    (let s := holding .bound .run
     s.servesHost = true ∧ s.engineFree = true ∧ handle0.slot.toNat < 512 ∧ s.names stale0 = false) ∧
    (let s := (inMode .run).withSlot 0 { record .bound with state := .faulted }
     s.servesHost = true ∧ s.engineFree = true ∧ s.names handle0 = true ∧ (s.slotAt 0).state = .faulted) := by decide +kernel

theorem witness_UpsetsAndBodyReads :
    (config.resetHeld = false ∧ handle0.slot.toNat < 512 ∧ (config.slotAt 0).integrity = .clean) ∧
    (let s := (inMode .run).withSlot 0 { record .bound with integrity := .single }
     s.resetHeld = false ∧ (s.slotAt 0).integrity ≠ .clean ∧ s.servesHost = true ∧ s.engineFree = true ∧
       s.names handle0 = true ∧ (s.slotAt 0).state ≠ .faulted ∧ (s.slotAt 0).integrity = .single) ∧
    (let s := (inMode .run).withSlot 0 { record .bound with integrity := .double }
     s.servesHost = true ∧ s.engineFree = true ∧ s.names handle0 = true ∧ (s.slotAt 0).state ≠ .faulted ∧
       (s.slotAt 0).integrity = .double) := by decide +kernel

/-! ## Table commands -/

/-- The sizes 384, 64 and 64 with a record on each border, on the wrong side and on the right one. -/
theorem witness_SetLayoutMovesTheRegions :
    ((inMode .run).servesHost = true ∧ (inMode .run).mode ≠ .config) ∧
    (config.servesHost = true ∧ config.mode = .config ∧ config.engineFree = true ∧ 512 < (513 : Half).toNat ∧
      (512 : Half).toNat + (1 : Half).toNat + (0 : Half).toNat ≠ 512 ∧
      (384 : Half).toNat + (64 : Half).toNat + (64 : Half).toNat = 512) ∧
    (∀ x ∈ [(384, Kind.bound), (447, .exported)],
      let s := config.withSlot x.1 (record x.2)
      s.servesHost = true ∧ s.engineFree = true ∧ (s.slotAt x.1).state ≠ .empty ∧
        (((s.slotAt x.1).kind = some .bound ∧ 384 ≤ x.1) ∨ ((s.slotAt x.1).kind = some .exported ∧ x.1 < 384 + 64))) ∧
    (let s := ((config.withSlot 383 (record .bound)).withSlot 384 (record .learned)).withSlot 448 (record .exported)
     s.servesHost = true ∧ s.engineFree = true ∧
       (∀ i < 512, (s.slotAt i).state ≠ .empty →
         ((s.slotAt i).kind = some .bound → i < 384) ∧ ((s.slotAt i).kind = some .exported → 384 + 64 ≤ i)) ∧
       (s.slotAt 384).isLearned = true ∧ s.notices = [] ∧ ((List.range 512).countP fun i => (s.slotAt i).isLearned) = 1) := by
  decide +kernel

/-- Filters that pass the record of slot 0 and of slot 511, and one that passes neither. -/
def filter0 (faultedToo : Bool) : PurgeFilter :=
  { bound := true, learned := true, exported := true, line := none, staleOnly := true, faultedToo := faultedToo }

theorem witness_PurgeWalksTheTable :
    (config.servesHost = true ∧ decodePurge 7 0xFF 1 1 = some (filter0 true)) ∧
    (let s := { (inMode .run).withSlot 511 { record .exported with state := .faulted } with
       slot := .pending (.purge (filter0 true)), purge := some { pos := 511, retired := 3 } }
     s.resetHeld = false ∧ s.grantNext = some .command ∧ (filter0 true).passes (s.layout.kindAt 511) (s.slotAt 511) = true ∧
       (filter0 false).passes (s.layout.kindAt 511) (s.slotAt 511) = false) ∧
    (let s := { (inMode .run).withSlot 510 { record .exported with state := .stale } with
       slot := .pending (.purge (filter0 false)), purge := some { pos := 510, retired := 3 } }
     s.resetHeld = false ∧ s.grantNext = some .command ∧ (filter0 false).passes (s.layout.kindAt 510) (s.slotAt 510) = true ∧
       (filter0 false).passes (s.layout.kindAt 509) (s.slotAt 509) = false) := by decide +kernel

/-- The conditions of R20 as the statement writes them. -/
def purgeHits (f : PurgeFilter) (i : Nat) (s : State) : Prop :=
  (s.slotAt i).state ≠ .empty ∧
    (if i < s.layout.b then f.bound = true else if i < s.layout.b + s.layout.l then f.learned = true else f.exported = true) ∧
    (f.line = none ∨ ∃ k, (s.slotAt i).key = some k ∧ k.line = f.line) ∧ ((s.slotAt i).state = .faulted → f.faultedToo = true) ∧
    ((s.slotAt i).state ≠ .faulted → f.staleOnly = true → (s.slotAt i).state = .stale)

/-- Slots at the borders of the regions, visited by filters for one region alone. -/
theorem witness_PurgeWalksTheTable_filter :
    (∀ x ∈ [(383, true, false, false), (384, false, true, false), (447, false, true, false), (448, false, false, true)],
      ∀ f ∈ [({ bound := x.2.1, learned := x.2.2.1, exported := x.2.2.2, line := none, staleOnly := true, faultedToo := false } :
        PurgeFilter)],
      let s := (inMode .run).withSlot x.1 { record .bound with state := .stale }
      purgeHits f x.1 s ∧ ¬purgeHits { f with bound := !f.bound, learned := !f.learned, exported := !f.exported } x.1 s ∧
        ¬purgeHits { f with line := some 3 } x.1 ((inMode .run).withSlot x.1
          { record .bound with state := .stale, key := some { key0 with line := none } })) ∧
    (1 ≤ (1 : Byte).toNat ∧ (7 : Byte).toNat ≤ 7 ∧ (0xFF : Byte) = lineCode none ∧ (3 : Byte) = lineCode (some 3) ∧
      (1 : Byte) = boolByte true ∧ (0 : Byte) = boolByte false) ∧
    (7 < (8 : Byte).toNat ∧ (3 < (4 : Byte).toNat ∧ (4 : Byte) ≠ 0xFF) ∧ 1 < (2 : Byte).toNat) := by
  simp only [purgeHits, ← PurgeFilter.passes_iff]
  decide +kernel

theorem witness_TableCommandsWaitForTheirGrant :
    (let s := sweeping 0 Slot.reset
     s.servesHost = true ∧ s.engineFree = false ∧ decodeKey keyBytes0 = some key0 ∧ handle0.slot.toNat < 512 ∧
       (decodeCreate 2 keyBytes0 policyBytes0 = none ∧ (decodeCreate 1 keyBytes0 policyBytes0).isSome = true) ∧
       (decodeWrite handle0 value0 1).isSome = true ∧ (decodeModify handle0 policyBytes0).isSome = true ∧
       (decodeHold handle0 1).isSome = true ∧ (decodeRelease handle0 1).isSome = true) ∧
    (let s := { sweeping 511 Slot.reset with mode := .config, target := .config }
     s.servesHost = true ∧ s.engineFree = false ∧ s.mode = .config ∧ (decodeLayout 0 512 0).isSome = true) ∧
    (∀ c ∈ [HostCommand.retire { slot := 511, gen := 0 }, .setLayout { b := 0, l := 0, e := 512 }],
      let s := { sweeping 0 Slot.reset with slot := .pending c }
      s.resetHeld = false ∧ s.grantNext = some .command ∧ c.isTable = true) ∧
    (let s := { sweeping 0 Slot.reset with slot := .pending (.find key0) }
     (s.resetHeld = false ∧ s.grantNext = some .command) ∧ s.keyFree key0 = true) ∧
    (let s := { holding .bound .run with slot := .pending (.hold { slot := 0, gen := 1 } 40) }
     s.resetHeld = false ∧ s.grantNext = some .command ∧ s.isCurrent { slot := 0, gen := 1 } = true ∧
       (s.slotAt 0).state ≠ .faulted ∧ (s.slotAt 0).held = false ∧ s.holds.length < 16) :=
  ⟨by decide +kernel, by decide +kernel, by decide +kernel, ⟨by decide +kernel, keyFree_one (s := { inMode .run with
    slot := .pending (.find key0), sweep := some { now := 200, pos := 0 }, tick := 210 }) rfl 0 Slot.reset _ rfl⟩, by decide +kernel⟩

/-- A line, and the command slot, that ask for the engine, as the statement writes it (R45, R47, R49). -/
abbrev lineAsks (s : State) (l : LineId) : Prop :=
  (s.line l).restartRequest = true ∨ ((s.mode = .run ∨ s.mode = .listen) ∧ (s.line l).rxQueue ≠ [])
def commandAsks (s : State) : Prop := ∃ c, s.slot = .pending c ∧ (∀ m, c ≠ .requestMode m) ∧ c ≠ .reset

/-- A run, a line pointer at 1 and frames queued on lines 0 and 3, in RUN; and a FIND in the command slot. -/
def contended (run : Nat) : State :=
  let ln : LineState := { (inMode .run).line 0 with rxQueue := [frame .update] }
  let s := ((inMode .run).withLine 0 ln).withLine 3 ln
  { s with arb := { s.arb with pointer := 1, run := run } }
def finding (s : State) : State := { s with slot := .pending (.find key0) }

theorem commandAsks_finding (s : State) : commandAsks (finding s) := by
  refine ⟨_, rfl, fun m h => ?_, fun h => ?_⟩ <;> cases h

theorem not_commandAsks {s : State} (h : s.slot = .idle) : ¬commandAsks s := fun ⟨_, e, _⟩ => by
  rw [h] at e
  cases e

/-- Each case of R49: STARTING; the sweep's share reached and not; the command slot alone and below the field share; line 3 with the
field share reached and with no command, where the pointer stands at 1; the sweep alone; nobody. -/
theorem witness_TableCommandsWaitForTheirGrant_choice :
    State.reset.mode = .starting ∧
    (∀ w ∈ [32, 33], let s := { sweeping 0 Slot.reset with arb := { State.reset.arb with sweepWait := w } }
     s.mode ≠ .starting ∧ s.sweep ≠ none ∧ s.arb.sweepShare ≤ s.arb.sweepWait) ∧
    (let s := { sweeping 0 Slot.reset with arb := { State.reset.arb with sweepWait := 31 } }
     s.sweep ≠ none ∧ s.arb.sweepWait < s.arb.sweepShare ∧ ∀ l, ¬lineAsks s l) ∧ ¬commandAsks (sweeping 0 Slot.reset) ∧
    (commandAsks (finding (inMode .run)) ∧ ∀ l, ¬lineAsks (finding (inMode .run)) l) ∧
    (commandAsks (finding (contended 3)) ∧ (contended 3).arb.run < (contended 3).arb.fieldShare ∧ lineAsks (finding (contended 3)) 0) ∧
    (let s := finding (contended 4)
     commandAsks s ∧ s.arb.fieldShare ≤ s.arb.run ∧ s.sweep = none ∧ lineAsks s (s.arb.pointer + 1 + 1) ∧
       (∀ j < (1 : Fin 4), ¬lineAsks s (s.arb.pointer + 1 + j)) ∧ s.grantNext = some (.line 3)) ∧
    (¬commandAsks (contended 0) ∧ lineAsks (contended 0) (1 + 1 + 1)) ∧
    (¬commandAsks (inMode .run) ∧ (inMode .run).sweep = none ∧ ∀ l, ¬lineAsks (inMode .run) l) ∧
    ((inMode .run).resetHeld = false ∧ (inMode .run).grantNext ≠ some .command ∧ (inMode .run).grantNext ≠ some .sweep ∧
      (inMode .run).grantNext ≠ some (.line 0)) :=
  ⟨rfl, by decide +kernel, by decide +kernel, not_commandAsks rfl, ⟨commandAsks_finding _, by decide +kernel⟩,
    ⟨commandAsks_finding _, by decide +kernel⟩, ⟨commandAsks_finding _, by decide +kernel⟩,
    ⟨not_commandAsks rfl, by decide +kernel⟩, ⟨not_commandAsks rfl, by decide +kernel⟩, by decide +kernel⟩

/-! ## Class store, shares, timing, lines -/

/-- A class as it is clocked in, in range, and out of it. -/
def classBytes0 : ClassArg :=
  { number := 15, enabled := 1, lineSet := 0xF, compare := 0x030210, maskNumber := 3, selLen := 16, disposition := 1, limit := 100,
    updateNotice := 2, edgeNotice := 0, announce := 1, lockToOrigin := 1 }

theorem witness_ClassStoreCommands :
    config.servesHost = true ∧ (decodeClass classBytes0).isSome = true ∧ decodeClass { classBytes0 with number := 16 } = none ∧
    decodeClass { classBytes0 with selLen := 17 } = none ∧ (3 : Byte) = BitVec.ofNat 8 (3 : Fin 4).val ∧
    ((0x0FFFFF : Tri).toNat < 2 ^ 20 ∧ 1048575 < (0x100000 : Tri).toNat ∧ 3 < (4 : Byte).toNat ∧ 1 < (2 : Byte).toNat ∧
      15 < (16 : Byte).toNat) ∧ config.mode = .config ∧ (inMode .run).servesHost = true ∧ (inMode .run).mode ≠ .config := by
  decide +kernel

theorem witness_SharesAndTimingAreSetInConfig :
    config.portOpen = true ∧ config.mode = .config ∧ (inMode .run).portOpen = true ∧ (inMode .run).mode ≠ .config ∧
    (1 ≤ (1 : Byte).toNat ∧ (15 : Byte).toNat ≤ 15 ∧ 15 < (16 : Byte).toNat ∧ (0 : Byte).toNat = 0) ∧
    ((250 : Byte).toNat ≤ 250 ∧ 250 < (251 : Byte).toNat) := by decide +kernel

/-- The settings of line 0 as they are clocked in: those of reset, with wake, enabled or not. -/
def settingsBytes0 (enabled : Byte) : LineArg :=
  { line := 0, rate := 1, node := 126, gap := 2, flow := 0, high := 6, low := 2, timeout := 50, flushOnEnable := 1,
    flushOnDisable := 0, wake := 1, replyPriority := 3, enabled := enabled }

theorem witness_SetLineWritesTheSettings :
    decodeSettings { settingsBytes0 1 with node := 127 } = none ∧ decodeSettings { settingsBytes0 1 with low := 6 } = none ∧
    decodeSettings (settingsBytes0 1) = some (0, enabled0) ∧ config.servesHost = true ∧ config.mode = .config ∧
    (let s := inMode .run
     s.servesHost = true ∧ s.mode ≠ .config ∧ { enabled0 with enabled := (s.line 0).settings.enabled } ≠ (s.line 0).settings) ∧
    (let s := withLine0 id (inMode .run)
     s.servesHost = true ∧ s.mode ≠ .config ∧ enabled0 = (s.line 0).settings ∧
       decodeSettings (settingsBytes0 0) = some (0, { enabled0 with enabled := false }) ∧
       { enabled0 with enabled := true } = (s.line 0).settings ∧ enabled0.flushOnDisable = false) ∧
    (let s := withLine0 (fun ln => { ln with settings := { enabled0 with flushOnDisable := true } }) (inMode .listen)
     s.servesHost = true ∧ s.mode ≠ .config ∧
       decodeSettings { settingsBytes0 0 with flushOnDisable := 1 } = some (0, { enabled0 with enabled := false, flushOnDisable := true }) ∧
       { enabled0 with flushOnDisable := true } = (s.line 0).settings) ∧
    (let s := withLine0 (fun ln => { ln with settings := { enabled0 with enabled := false } }) (inMode .run)
     s.servesHost = true ∧ s.mode ≠ .config ∧ { enabled0 with enabled := false } = (s.line 0).settings ∧ enabled0.enabled = true) := by
  decide +kernel

theorem witness_LineAndTimingReadsChangeNothing :
    ((standbyFrom .config).portOpen = true ∧ (standbyFrom .config).mode = .standby) ∧ config.servesHost = true ∧ config.sweep = none ∧ 3 < (4 : Byte).toNat ∧ (sweeping 511 Slot.reset).servesHost = true ∧
    (sweeping 511 Slot.reset).sweep = some { now := 200, pos := 511 } := by decide +kernel

theorem witness_ReadCountersReadsAndClears :
    ((standbyFrom .run).portOpen = true ∧ (standbyFrom .run).mode = .standby) ∧
    (config.portOpen = true ∧ config.mode ≠ .standby ∧ 3 < (4 : Byte).toNat ∧ 1 < (2 : Byte).toNat) ∧
    (3 : Byte) = BitVec.ofNat 8 (3 : LineId).val := by decide +kernel

/-- A frame in flight on line 0. -/
def flight0 (item : FlightItem) (collisions : Nat) (sending : Bool) : Flight :=
  { item := item, bytes := [1, 2], collisions := collisions, sending := sending, echoed := 0 }
def publish0 : DataItem := .publish { slot := 0, gen := 1 }

theorem witness_LineHoldsBreakAndEnd :
    (config.portOpen = true ∧ config.mode = .config) ∧
    ((inMode .run).portOpen = true ∧ (inMode .run).mode = .run ∧ 3 < (4 : Byte).toNat ∧ 1 < (2 : Byte).toNat) ∧
    (let s := withLine0 id (inMode .run)
     s.portOpen = true ∧ s.mode = .run ∧ (1 : Half) ≠ 0 ∧ (s.line 0).hold = .off ∧ (s.line 0).flight = none) ∧
    (let s := withLine0 (fun ln => { ln with flight := some (flight0 (.data publish0) 0 true) }) (inMode .listen)
     s.portOpen = true ∧ s.mode = .listen ∧ (s.line 0).hold = .off ∧ (s.line 0).flight ≠ none) ∧
    (let s := withLine0 (fun ln => { ln with hold := .waiting 65535 true }) (inMode .run)
     s.portOpen = true ∧ (s.line 0).hold = .waiting 65535 true) ∧
    (let s := withLine0 (fun ln => { ln with hold := .breaking 1 true }) (inMode .run)
     s.portOpen = true ∧ s.resetHeld = false ∧ (s.line 0).hold = .breaking 1 true ∧ (1 : Half) ≠ 65535) := by decide +kernel

theorem witness_LineAbortEmptiesTheDataPart : (inMode .run).servesHost = true ∧ 3 < (4 : Byte).toNat ∧
    (standbyFrom .run).portOpen = true ∧ (standbyFrom .run).mode = .standby := by decide +kernel

/-! ## Notices, conditions, capture -/

/-- A notice for a handle. -/
def notice0 (k : NoticeKind) : Notice := { handle := { slot := 0, gen := 1 }, kind := k, tick := 9, waited := 4 }

theorem witness_PopNoticeTakesTheOldest :
    (config.servesHost = true ∧ config.notices = []) ∧
    (let s := { inMode .listen with notices := [notice0 .stale, notice0 .created] }
     s.servesHost = true ∧ s.notices = notice0 .stale :: [notice0 .created]) := by decide +kernel

theorem witness_ScanMissedClearsTheFirstMark :
    (config.servesHost = true ∧ 511 < (512 : Half).toNat ∧ (511 : Half).toNat ≤ 511 ∧
      (∀ i < 512, (511 : Half).toNat ≤ i → (config.slotAt i).missed = false)) ∧
    (let s := config.withSlot 511 { Slot.reset with missed := true }
     s.servesHost = true ∧ (511 : Half).toNat ≤ 511 ∧ (s.slotAt 511).missed = true ∧
       ∀ j < 511, (511 : Half).toNat ≤ j → (s.slotAt j).missed = false) := by
  refine ⟨⟨by decide +kernel, by decide, by decide, fun i _ _ => by rw [slotAt_empty rfl]; rfl⟩,
    by decide +kernel, by decide, by decide +kernel, fun j h g => ?_⟩
  have : (511 : Half).toNat = 511 := rfl
  omega

/-- Routes as they are clocked in, the wake's route apart. -/
def routesBytes0 (wake : Byte) : RoutesArg :=
  { lineOverrun := 2, lineCollision := 0, noticeOverflow := 1, sweepOverrun := 2, faultCorrected := 0, faultUncorrectable := 2,
    wake := wake }

theorem witness_NoticeAndConditionSettings :
    config.servesHost = true ∧ (1 ≤ (1 : Byte).toNat ∧ (64 : Byte).toNat ≤ 64 ∧ 64 < (65 : Byte).toNat ∧ (0 : Byte).toNat = 0) ∧
    (decodeRoutes (routesBytes0 2)).isSome = true ∧ decodeRoutes (routesBytes0 3) = none ∧ (127 : Byte).toNat < 128 ∧ 128 ≤ (128 : Byte).toNat := by decide +kernel

/-- A kept capture. -/
def capture0 (corrected overwritten : Bool) : Capture :=
  { corrected := corrected, slot := 3, gen := 1, source := .sweep, tick := 7, overwritten := overwritten }

theorem witness_FaultCaptureReadClearAndResets : config.servesHost = true ∧
    (capture0 true false).corrected = true ∧ (capture0 false false).corrected = false ∧ (capture0 true false).overwritten = false ∧
    (capture0 true true).overwritten = true := by decide +kernel

/-- Entries for other handles. -/
def others (n : Nat) : List Notice :=
  (List.range n).map fun i => { handle := { slot := i + 1, gen := 1 }, kind := .created, tick := 9, waited := 4 }

theorem witness_NoticesMergeByTheTable :
    (({ config with notices := others 2 ++ notice0 .stale :: [notice0 .created].map fun e => { e with handle := { slot := 0, gen := 2 } } } :
        State).notices = others 2 ++ { handle := { slot := 0, gen := 1 }, kind := .stale, tick := 9, waited := 4 } ::
          [{ handle := { slot := 0, gen := 2 }, kind := .created, tick := 9, waited := 4 }] ∧
      ∀ e ∈ others 2 ++ [{ handle := { slot := 0, gen := 2 }, kind := .created, tick := 9, waited := 4 }],
        e.handle ≠ { slot := 0, gen := 1 }) ∧
    ((∀ e ∈ others 63, e.handle ≠ { slot := 0, gen := 1 }) ∧ (others 63).length < 64) ∧
    ((∀ e ∈ others 64, e.handle ≠ { slot := 0, gen := 1 }) ∧ 64 ≤ (others 64).length) := by decide +kernel

/-! ## Modes -/

/-- A state whose slot holds a mode request. -/
def asked (target : Mode) (s : State) : State := { s with slot := .pending (.requestMode target) }

/-- A state in a transition to a target. -/
def moving (k : Transition) (target : Mode) (s : State) : State := { s with transition := some k, target := target }

theorem witness_RequestModeBeginsATransition :
    (config.portOpen = true ∧ decodeMode 0 = none ∧ decodeMode 5 = none) ∧
    (decodeMode 1 = some .config ∧ config.transition = none ∧ Mode.config = config.mode) ∧
    (let s := standbyFrom .config
     s.portOpen = true ∧ decodeMode 3 = some .listen ∧ s.transition = none ∧ s.mode = .standby) ∧
    (let s := moving .resume .run (standbyFrom .run)
     s.portOpen = true ∧ decodeMode 2 = some .run ∧ s.transition ≠ none) ∧
    (let s := inMode .run
     s.portOpen = true ∧ decodeMode 4 = some .standby ∧ Mode.standby ≠ s.mode ∧
       ¬(s.mode = .standby ∧ (Mode.standby = .run ∨ Mode.standby = .listen))) := by decide +kernel

theorem witness_ImmediateTransitions :
    (let s := asked .standby config
     s.resetHeld = false ∧ s.transition = none ∧ s.mode = .config ∧ s.slot = .pending (.requestMode .standby)) ∧
    (let s := asked .config (standbyFrom .run)
     s.resetHeld = false ∧ s.transition = none ∧ s.mode = .standby ∧ s.slot = .pending (.requestMode .config)) ∧
    (let s := asked .run (inMode .listen)
     s.resetHeld = false ∧ s.transition = none ∧ s.mode = .listen ∧ s.slot = .pending (.requestMode .run)) ∧
    (let s := asked .listen (inMode .run)
     s.resetHeld = false ∧ s.transition = none ∧ s.mode = .run ∧ s.slot = .pending (.requestMode .listen)) ∧
    (let s := asked .listen config
     s.mode = .config ∧ s.slot = .pending (.requestMode .listen) ∧ (s.line 3).settings.enabled = false) ∧
    (let s := asked .run (withLine0 id config)
     s.resetHeld = false ∧ s.transition = none ∧ s.mode = .config ∧ s.slot = .pending (.requestMode .run) ∧
       (s.line 0).settings.enabled = true) := by decide +kernel

theorem witness_DrainsStartAndEnd :
    (let s := asked .config (inMode .run)
     s.resetHeld = false ∧ s.transition = none ∧ s.mode = .run ∧ s.slot = .pending (.requestMode .config)) ∧
    (let s := asked .standby (inMode .listen)
     s.resetHeld = false ∧ s.transition = none ∧ s.mode = .listen ∧ s.slot = .pending (.requestMode .standby)) ∧
    (let s := moving .drain .standby (asked .standby (inMode .listen))
     s.resetHeld = false ∧ s.transition = some .drain ∧ ∀ l, (s.line l).rxQueue = []) ∧
    (let s := moving .drain .config (withLine0 (fun ln => { ln with rxQueue := [frame .update] }) (inMode .run))
     s.resetHeld = false ∧ s.transition = some .drain ∧ ∃ l, (s.line l).rxQueue ≠ []) := by decide +kernel

theorem witness_WakeAndResume :
    (let s := withLine0 id (standbyFrom .listen)
     (s.resetHeld = false ∧ s.mode = .standby ∧ s.origin = some .listen ∧ (s.line 0).settings.wake = true ∧
       (s.line 0).settings.enabled = true ∧ s.transition = none) ∧ ∀ r, s.slot ≠ .pending (.requestMode r)) ∧
    (let s := moving .resume .run (asked .run (withLine0 id (standbyFrom .config)))
     s.resetHeld = false ∧ s.mode = .standby ∧ s.transition = some .resume ∧ s.origin = some .config ∧ s.target = .run ∧
       (s.line 0).settings.enabled = true ∧ (s.line 0).drivesBreak = false ∧ (s.line 0).isSending = false ∧
       (s.line 1).settings.enabled = false) := by
  refine ⟨⟨by decide +kernel, fun r h => ?_⟩, by decide +kernel⟩
  cases h

theorem witness_SoftResetAsOneStep :
    (standbyFrom .run).portOpen = true ∧
    (let s := { (holding .learned .run).withSlot 1 (record .exported) with slot := .pending .reset }
     s.resetHeld = false ∧ s.slot = .pending .reset ∧ (s.slotAt 0).isLearned = true ∧ (s.slotAt 1).isLearned = false ∧
       (s.slotAt 1).visible = true ∧ (s.slotAt 1).kind = some .exported ∧ (s.slotAt 511).isLearned = false ∧
       (s.slotAt 511).visible = false) ∧
    (let s := { (inMode .run).withSlot 511 { record .bound with state := .faulted } with slot := .pending .reset }
     s.resetHeld = false ∧ s.slot = .pending .reset ∧ (s.slotAt 511).isLearned = false ∧ (s.slotAt 511).visible = false) := by
  decide +kernel

/-! ## Ticks and the sweep -/

theorem witness_TicksStartAndOweSweeps :
    (let s := inMode .listen
     s.resetHeld = false ∧ s.mode = .listen ∧ s.transition ≠ some .drain ∧ s.sweep = none) ∧
    (let s := moving .drain .config (inMode .run)
     s.resetHeld = false ∧ s.mode = .run ∧ s.transition = some .drain) ∧
    (let s := sweeping 511 Slot.reset
     s.resetHeld = false ∧ s.mode = .run ∧ s.transition ≠ some .drain ∧ s.sweep ≠ none ∧ s.sweepOwed = false) ∧
    (let s := { sweeping 0 Slot.reset with sweepOwed := true }
     s.transition ≠ some .drain ∧ s.sweep ≠ none ∧ s.sweepOwed = true) := by decide +kernel

/-- A hold entry on a slot. -/
def holdAt (pos : Nat) (start : Tick) (u : Option PendingUpdate) : HoldEntry := { hold0 u with slot := pos, start := start }

/-- A sweep at a held record. -/
def sweepingHeld (pos : Nat) (x : Slot) (e : HoldEntry) : State := { sweeping pos { x with held := true } with holds := [e] }

/-- A record whose time stamp lies some ticks before the sweep now of those sweeps. -/
def aged (n : Tick) (x : Slot) : Slot := { x with body := { x.body with stamp := 200 - n } }

theorem witness_SweepVisitsJudgeTheirSlot_passed :
    (let s := sweeping 511 Slot.reset
     s.resetHeld = false ∧ s.grantNext = some .sweep ∧ (s.slotAt 511).integrity = .clean ∧ (s.slotAt 511).state = .empty ∧
       s.sweepOwed = false) ∧
    (let s := sweeping 510 (broken .double { record .bound with state := .faulted })
     s.grantNext = some .sweep ∧ (s.slotAt 510).integrity = .double ∧ (s.slotAt 510).state = .faulted) ∧
    (let s := { sweeping 511 (broken .double { record .bound with state := .faulted }) with sweepOwed := true }
     s.grantNext = some .sweep ∧ (s.slotAt 511).state = .faulted ∧ s.sweepOwed = true) := by decide +kernel

theorem witness_SweepVisitsJudgeTheirSlot_errors :
    (∀ x ∈ [Slot.reset, record .exported], let s := sweeping 511 (broken .single x)
     s.grantNext = some .sweep ∧ (s.slotAt 511).state ≠ .faulted ∧ (s.slotAt 511).integrity = .single) ∧
    (let s := sweeping 0 (broken .double Slot.reset)
     s.grantNext = some .sweep ∧ (s.slotAt 0).state = .empty ∧ (s.slotAt 0).integrity = .double) ∧
    (let s := sweepingHeld 511 (broken .double (record .learned)) (holdAt 511 3 none)
     s.grantNext = some .sweep ∧ (s.slotAt 511).state ≠ .empty ∧ (s.slotAt 511).state ≠ .faulted ∧
       (s.slotAt 511).integrity = .double) := by decide +kernel

theorem witness_SweepVisitsJudgeTheirSlot_ages :
    (let s := sweeping 511 (aged 9 (record .bound))
     s.grantNext = some .sweep ∧ (s.slotAt 511).integrity = .clean ∧ (s.slotAt 511).state = .fresh ∧ s.holdOf 511 = none ∧
       (s.slotAt 511).kind ≠ some .exported ∧ age (s.slotAt 511).body.stamp 200 < (s.slotAt 511).body.limit.toNat) ∧
    (let s := sweeping 0 (aged 10 { record .learned with state := .new })
     s.grantNext = some .sweep ∧ (s.slotAt 0).state = .new ∧ (s.slotAt 0).body.limit ≠ 0 ∧
       (s.slotAt 0).body.limit.toNat ≤ age (s.slotAt 0).body.stamp 200) ∧
    (let s := { sweeping 511 { record .learned with state := .stale } with learnedExpiry := 195 }
     s.grantNext = some .sweep ∧ (s.slotAt 511).integrity = .clean ∧ (s.slotAt 511).state = .stale ∧ s.holdOf 511 = none ∧
       (s.slotAt 511).kind = some .learned ∧ (s.slotAt 511).held = false ∧ s.learnedExpiry ≠ 0 ∧
       s.learnedExpiry.toNat ≤ age (s.slotAt 511).body.stamp 200) ∧
    (let s := { sweeping 400 { record .learned with state := .stale } with learnedExpiry := 196 }
     s.grantNext = some .sweep ∧ (s.slotAt 400).state = .stale ∧ s.holdOf 400 = none ∧ (s.slotAt 400).kind ≠ some .exported ∧
       age (s.slotAt 400).body.stamp 200 < s.learnedExpiry.toNat) := by decide +kernel

theorem witness_SweepVisitsJudgeTheirSlot_holds :
    (let s := sweepingHeld 511 (record .bound) (holdAt 511 161 none)
     s.grantNext = some .sweep ∧ (s.slotAt 511).integrity = .clean ∧ (s.slotAt 511).state ≠ .empty ∧
       (s.slotAt 511).state ≠ .faulted ∧ (s.slotAt 511).kind ≠ some .exported ∧ (s.slotAt 511).held = true ∧
       s.holdOf 511 = some (holdAt 511 161 none) ∧ age 161 200 < (40 : Byte).toNat) ∧
    (∀ u ∈ [none, some update0], let s := sweepingHeld 0 { record .learned with state := .stale } (holdAt 0 160 u)
     s.grantNext = some .sweep ∧ (s.slotAt 0).held = true ∧ s.holdOf 0 = some (holdAt 0 160 u) ∧ (holdAt 0 160 u).update = u ∧
       (holdAt 0 160 u).limit.toNat ≤ age (holdAt 0 160 u).start 200) := by decide +kernel

theorem witness_SweepVisitsJudgeTheirSlot_publishes :
    (let s := sweeping 511 { record .exported with body := { (record .exported).body with nextDue := 201 } }
     (s.grantNext = some .sweep ∧ (s.slotAt 511).integrity = .clean ∧ (s.slotAt 511).state ≠ .empty ∧
       (s.slotAt 511).state ≠ .faulted ∧ (s.slotAt 511).kind = some .exported ∧ s.holdOf 511 = none ∧
       dueCome (s.slotAt 511).body.nextDue 200 = false)) ∧
    (let s := sweepingHeld 448 { record .exported with body := { (record .exported).body with nextDue := 200 } } (holdAt 448 161 none)
     s.grantNext = some .sweep ∧ (s.slotAt 448).body.period ≠ 0 ∧ dueCome (s.slotAt 448).body.nextDue 200 = true ∧
       s.holdOf 448 = some (holdAt 448 161 none) ∧ age 161 200 < (40 : Byte).toNat) ∧
    (let s := sweepingHeld 511 { record .exported with body := { (record .exported).body with nextDue := 200 } } (holdAt 511 160 none)
     s.grantNext = some .sweep ∧ (s.slotAt 511).kind = some .exported ∧ s.holdOf 511 = some (holdAt 511 160 none) ∧
       (holdAt 511 160 none).update = none ∧ (holdAt 511 160 none).limit.toNat ≤ age (holdAt 511 160 none).start 200 ∧
       (s.slotAt 511).body.period ≠ 0 ∧ dueCome (s.slotAt 511).body.nextDue 200 = true) := by decide +kernel

/-! ## Frames -/

/-- The key of the small frame on line 0, and the record of slot 0 under a key that a frame reaches. -/
def frameKey0 (k : FrameKind) (d : Disposition) : Key := frameKey 0 (frame k) (class0 d)

/-- What every statement about a frame asks of the state and the line. -/
def readyFor (f : RxFrame) (s : State) : Bool :=
  !s.resetHeld && (s.line 0).rxQueue == [f] && s.grantNext == some (.line 0) && !(s.line 0).restartRequest
def frameReady (k : FrameKind) (s : State) : Bool := readyFor (frame k) s

/-- A line 0 with flow control on, a count in its receive queue, and a control entry. -/
def flowing (n : Nat) (control : Option Control) (m : Mode) : State :=
  withLine0 (fun ln => { ln with
    settings := { enabled0 with flow := true }, rxQueue := List.replicate n (frame .update), control := control }) (inMode m)

theorem witness_UnclassedFramesAreDiscarded :
    (frameReady .query (arrived .query Slot.reset .drop .run) = true ∧
      (arrived .query Slot.reset .drop .run).active.classify 0 0x30210 = some 0 ∧
      ((arrived .query Slot.reset .drop .run).active.classes.get 0).disposition = .drop) ∧
    (let s := { arrived .update Slot.reset .drop .listen with active := ClassSet.reset }
     frameReady .update s = true ∧ s.active.classify 0 0x30210 = none) ∧
    frameReady .withdraw (arrived .withdraw Slot.reset .drop .run) = true ∧
    (let s := flowing 3 (some .pause) .run
     (s.resetHeld = false ∧ s.grantNext = some (.line 0) ∧ s.mode = .run ∧ s.transition = none ∧ (s.line 0).settings.flow = true ∧
       (s.line 0).rxQueue = frame .update :: List.replicate 2 (frame .update) ∧ 2 ≤ (s.line 0).settings.low) ∧
     (s.line 0).toldPaused) ∧
    ((flowing 4 (some .pause) .run).line 0).settings.low < 3 ∧ ¬((flowing 3 none .run).line 0).toldPaused :=
  ⟨by decide +kernel, by decide +kernel, by decide +kernel, ⟨by decide +kernel, (LineState.flowPaused_iff _).1 (by decide +kernel)⟩,
    by decide +kernel, fun h => absurd ((LineState.flowPaused_iff _).2 h) (by decide +kernel)⟩

theorem witness_UpdatesAreAppliedOrKept :
    (let s := arrived .update (record .bound) .bind .run
     frameReady .update s = true ∧ s.active.classify 0 0x30210 = some 0 ∧ (s.active.classes.get 0).disposition ≠ .drop ∧
       (s.active.classes.get 0).selLen.val ≤ 8 * (frame .update).payload.length ∧
       s.lookup (frameKey0 .update .bind) = some 0 ∧ (s.slotAt 0).kind ≠ some .exported ∧ (s.slotAt 0).integrity = .clean ∧
       (s.slotAt 0).body.owner = none ∧ (s.slotAt 0).held = false) ∧
    (let s := { arrived .update
        { record .learned with held := true, body := { (record .learned).body with owner := some 33 } } .learn .listen with
          holds := [hold0 (some update0)] }
     frameReady .update s = true ∧ s.lookup (frameKey0 .update .learn) = some 0 ∧ (s.slotAt 0).kind ≠ some .exported ∧
       (s.slotAt 0).body.owner = some (frame .update).source ∧ (s.slotAt 0).held = true) ∧
    (let s := arrivedAs (short .update) (record .bound) .bind .run
     readyFor (short .update) s = true ∧ s.active.classify 0 0x30210 = some 0 ∧
       8 * (short .update).payload.length < (s.active.classes.get 0).selLen.val) ∧
    (frameReady .update (arrived .update Slot.reset .bind .run) = true ∧
      (arrived .update Slot.reset .bind .run).lookup (frameKey0 .update .bind) = none) ∧
    (let s := arrived .update (record .exported) .bind .run
     frameReady .update s = true ∧ s.lookup (frameKey0 .update .bind) = some 0 ∧ (s.slotAt 0).kind = some .exported) ∧
    (let s := arrived .update { record .bound with body := { (record .bound).body with owner := some 34 } } .bind .run
     frameReady .update s = true ∧ s.lookup (frameKey0 .update .bind) = some 0 ∧ (s.slotAt 0).kind ≠ some .exported ∧
       (s.slotAt 0).integrity = .clean ∧ (s.slotAt 0).body.owner = some 34 ∧ (34 : Byte) ≠ (frame .update).source) :=
  ⟨by decide +kernel, by decide +kernel, by decide +kernel, ⟨by decide +kernel, lookup_arrivedAs _ _ _ _ _ rfl⟩, by decide +kernel,
    by decide +kernel⟩

theorem witness_QueriesAreAnswered :
    (let s := arrived .query (record .exported) .bind .run
     frameReady .query s = true ∧ s.active.classify 0 0x30210 = some 0 ∧ (s.active.classes.get 0).disposition ≠ .drop ∧
       (s.active.classes.get 0).selLen.val ≤ 8 * (frame .query).payload.length ∧
       s.lookup (frameKey0 .query .bind) = some 0 ∧ (s.slotAt 0).integrity = .clean ∧
       s.mode = .run ∧ s.transition = none ∧ (s.line 0).data.length < 8) ∧
    (let s := moving .drain .config (arrived .query (record .bound) .bind .run)
     frameReady .query s = true ∧ s.lookup (frameKey0 .query .bind) = some 0 ∧ s.mode = .run ∧ s.transition ≠ none) ∧
    (let s := arrived .query (record .bound) .bind .listen
     frameReady .query s = true ∧ s.lookup (frameKey0 .query .bind) = some 0 ∧ s.mode = .listen) ∧
    (let s := arrivedAs (short .query) (record .bound) .bind .run
     readyFor (short .query) s = true ∧ s.active.classify 0 0x30210 = some 0 ∧
       8 * (short .query).payload.length < (s.active.classes.get 0).selLen.val) ∧
    (frameReady .query (arrived .query Slot.reset .learn .listen) = true ∧
      (arrived .query Slot.reset .learn .listen).lookup (frameKey0 .query .learn) = none) :=
  ⟨by decide +kernel, by decide +kernel, by decide +kernel, by decide +kernel, by decide +kernel, lookup_arrivedAs _ _ _ _ _ rfl⟩

theorem witness_WithdrawalsRetireOrAreRefused :
    (let s := arrived .withdraw (record .learned) .learn .run
     frameReady .withdraw s = true ∧ s.active.classify 0 0x30210 = some 0 ∧ (s.active.classes.get 0).disposition ≠ .drop ∧
       (s.active.classes.get 0).selLen.val ≤ 8 * (frame .withdraw).payload.length ∧
       s.lookup (frameKey0 .withdraw .learn) = some 0 ∧ (s.slotAt 0).integrity = .clean ∧ (s.slotAt 0).kind = some .learned ∧
       (s.slotAt 0).held = false ∧ (s.slotAt 0).body.originNode = (frame .withdraw).source ∧ s.notices = []) ∧
    (let s := arrived .withdraw (record .bound) .bind .listen
     frameReady .withdraw s = true ∧ s.lookup (frameKey0 .withdraw .bind) = some 0 ∧ (s.slotAt 0).kind ≠ some .learned) ∧
    (let s := arrived .withdraw { record .learned with body := { (record .learned).body with originNode := 34 } } .learn .listen
     frameReady .withdraw s = true ∧ s.lookup (frameKey0 .withdraw .learn) = some 0 ∧ (s.slotAt 0).integrity = .clean ∧
       (s.slotAt 0).body.originNode ≠ (frame .withdraw).source) ∧
    (let s := arrivedAs (short .withdraw) (record .learned) .learn .run
     readyFor (short .withdraw) s = true ∧ s.active.classify 0 0x30210 = some 0 ∧
       8 * (short .withdraw).payload.length < (s.active.classes.get 0).selLen.val) ∧
    (frameReady .withdraw (arrived .withdraw Slot.reset .bind .run) = true ∧
      (arrived .withdraw Slot.reset .bind .run).lookup (frameKey0 .withdraw .bind) = none) :=
  ⟨by decide +kernel, by decide +kernel, by decide +kernel, by decide +kernel, by decide +kernel, lookup_arrivedAs _ _ _ _ _ rfl⟩

/-- Records with a body error that an UPDATE, a QUERY and a WITHDRAW find. -/
theorem witness_BodyReadsOfFrames_errors :
    ∀ i ∈ [Integrity.single, .double],
      (let s := arrived .update (broken i (record .bound)) .bind .run
       frameReady .update s = true ∧ s.lookup (frameKey0 .update .bind) = some 0 ∧ (s.slotAt 0).kind ≠ some .exported ∧
         (s.slotAt 0).integrity = i) ∧
      (let s := arrived .query (broken i (record .exported)) .bind .listen
       frameReady .query s = true ∧ s.lookup (frameKey0 .query .bind) = some 0 ∧ (s.slotAt 0).integrity = i) ∧
      (let s := arrived .withdraw (broken i (record .learned)) .learn .run
       frameReady .withdraw s = true ∧ s.lookup (frameKey0 .withdraw .learn) = some 0 ∧ (s.slotAt 0).kind = some .learned ∧
         (s.slotAt 0).held = false ∧ (s.slotAt 0).integrity = i) := by decide +kernel

/-- A learned region of slots 0 and 1, occupied by records of another key, with the victim pointer at slot 1. -/
def fullRegion (x y : Slot) : State :=
  { withLine0 (fun ln => { ln with rxQueue := [frame .update] })
      (((inMode .run).withSlot 0 { x with key := some { key0 with ident := 1 } }).withSlot 1
        { y with key := some { key0 with ident := 2 } }) with
    active := classes .learn, layout := { b := 0, l := 2, e := 510 }, victim := 1 }

theorem lookup_fullRegion (x y : Slot) : (fullRegion x y).lookup (frameKey0 .update .learn) = none := by
  have e : ∀ (z : Slot) (k : Key), (frameKey0 .update .learn).overlaps k = false →
      Slot.matchesKey (frameKey0 .update .learn) { z with key := some k } = false := fun z k h => by simp [Slot.matchesKey, h]
  refine lookup_none fun i => ?_
  have hs : (fullRegion x y).slotAt i = (((inMode .run).withSlot 0 { x with key := some { key0 with ident := 1 } }).withSlot 1
      { y with key := some { key0 with ident := 2 } }).slotAt i := State.slotAt_eq_of_slots rfl i
  rw [hs]
  let P : Slot → Prop := fun z => z.matchesKey (frameKey0 .update .learn) = false
  exact slotAt_all (P := P) (slotAt_all (P := P) (matches_none rfl _) 0 (e x { key0 with ident := 1 } (by decide))) 1
    (e y { key0 with ident := 2 } (by decide)) i

theorem witness_LearningFillsTheLowestEmptySlot :
    let s := arrived .update Slot.reset .learn .run
    (frameReady .update s = true ∧ s.active.classify 0 0x30210 = some 0 ∧ (s.active.classes.get 0).disposition = .learn ∧
      (s.active.classes.get 0).selLen.val ≤ 8 * (frame .update).payload.length ∧
      (s.layout.b ≤ 384 ∧ 384 < s.layout.b + s.layout.l) ∧ (s.slotAt 384).state = .empty) ∧
    s.lookup (frameKey0 .update .learn) = none ∧ (∀ j < 384, s.layout.b ≤ j → (s.slotAt j).state ≠ .empty) ∧
    ({ s with layout := { b := 448, l := 0, e := 64 } } : State).layout.l = 0 :=
  ⟨by decide +kernel, lookup_arrivedAs _ _ _ _ _ rfl, fun _ h g => absurd g (Nat.not_le.2 h), rfl⟩

/-- Regions whose victim falls to the first pass, by the pointer's order and wrapped, and to the second, and one with every record held. -/
theorem witness_LearningFillsTheLowestEmptySlot_full :
    (∀ s ∈ [fullRegion (record .learned) { record .learned with state := .faulted },
        fullRegion { record .learned with state := .stale } (record .learned), fullRegion (record .learned) { record .learned with held := true },
        fullRegion { record .learned with held := true } { record .learned with held := true }],
      frameReady .update s = true ∧ s.active.classify 0 0x30210 = some 0 ∧ s.layout.l ≠ 0 ∧ s.layout.b + s.layout.l ≤ 512 ∧
        (s.slotAt 0).state ≠ .empty ∧ (s.slotAt 1).state ≠ .empty) ∧
    ((fullRegion (record .learned) { record .learned with state := .faulted }).slotAt (0 + (1 - 0 + 0) % 2)).state = .faulted ∧
    (let s := fullRegion { record .learned with state := .stale } (record .learned)
     (s.slotAt (0 + (1 - 0 + 1) % 2)).state = .stale ∧ (s.slotAt 0).held = false ∧ (s.slotAt 1).state = .fresh) ∧
    (let s := fullRegion (record .learned) { record .learned with held := true }
     (s.slotAt 0).state = .fresh ∧ (s.slotAt 1).state = .fresh ∧ (s.slotAt 1).held = true ∧
       (s.slotAt (0 + (1 - 0 + 1) % 2)).held = false) := by decide +kernel

theorem witness_RestartPurgeClearsALine :
    let s := withLine0 (fun ln => { ln with restartRequest := true })
      ((config.withSlot 0 { record .learned with key := some { key0 with line := some 0 } }).withSlot 1
        { record .learned with key := some { key0 with line := some 3 } })
    s.resetHeld = false ∧ (s.line 0).restartRequest = true ∧ s.grantNext = some (.line 0) ∧
      (s.slotAt 0).learnedFrom 0 = true ∧ (s.slotAt 1).learnedFrom 0 = false ∧ s.notices = [] ∧
      ((List.range 512).countP fun i => (s.slotAt i).learnedFrom 0) = 1 := by decide +kernel

theorem witness_WaitsThatEnd :
    config.resetHeld = false ∧ ({ config with notices := [notice0 .stale] } : State).notices ≠ [] := by decide +kernel

/-! ## Lines -/

/-- A line 0 with its receiver in a state. -/
def hearing (rx : Rx) : State := withLine0 (fun ln => { ln with rx := rx }) (inMode .run)

/-- The characters of a good frame and of one that is damaged, the last of them apart. -/
def chars0 : List Byte := [33, 0x13, 0x02, 0x10, 0] ++ (halfBytes (crc [33, 0x13, 0x02, 0x10, 0])).take 1
def last0 : Byte := (crc [33, 0x13, 0x02, 0x10, 0]).extractLsb' 0 8

theorem witness_ReceiversGatherAndJudge :
    (∀ rx ∈ [Rx.waiting, .discarding, .stopped, .ready, .assembling [33], .assembling chars0, .complete (frame .update)],
      (hearing rx).resetHeld = false ∧ ((hearing rx).line 0).isSending = false ∧ ((hearing rx).line 0).rx = rx) ∧
    (badLength ([33] ++ [0x13]) = false ∧ isWhole ([33] ++ [0x13]) = false) ∧
    (badLength (chars0 ++ [last0]) = false ∧ isWhole (chars0 ++ [last0]) = true ∧
      judgeFrame 126 (chars0 ++ [last0]) = some { kind := .update, source := 33, ident := 0x30210, payload := [] }) ∧
    judgedBad 126 (chars0 ++ [last0 + 1]) = true ∧ judgedBad 126 ([33, 0x13, 0x02, 0x10] ++ [9]) = true ∧
    (∀ w ∈ [0b10_10100001_0#11, 0b01_10100001_0#11, 0b00_00000001_0#11],
      w.getLsbD 0 = false ∧ w ≠ 0 ∧ (w.getLsbD 10 = false ∨ ((List.range 9).countP fun k => w.getLsbD (k + 1)) % 2 = 1)) := by
  decide +kernel

theorem witness_CompleteFramesAreDelivered :
    (∀ k ∈ [FrameKind.update, .query, .withdraw, .pause, .resume],
      (hearing (.complete (frame k))).resetHeld = false ∧
        ((hearing (.complete (frame k))).line 0).rx = .complete (frame k) ∧ (frame k).kind = k ∧
        ((hearing (.complete (frame k))).line 0).rxQueue.length < 8) ∧
    (let s := withLine0 (fun ln => { ln with rx := .complete (frame .query), rxQueue := List.replicate 8 (frame .update) })
       (inMode .listen)
     s.resetHeld = false ∧ (s.line 0).rx = .complete (frame .query) ∧ 8 ≤ (s.line 0).rxQueue.length) ∧
    (let s := (flowing 5 none .run)
     (s.mode = .run ∧ s.transition = none ∧ (s.line 0).settings.flow = true ∧ (s.line 0).rxQueue.length < 8 ∧
       (s.line 0).settings.high ≤ (s.line 0).rxQueue.length + 1) ∧ ¬(s.line 0).toldPaused) ∧
    (let s := (flowing 4 none .run)
     (s.line 0).rxQueue.length + 1 < (s.line 0).settings.high) ∧ ((flowing 5 (some .pause) .run).line 0).toldPaused :=
  ⟨by decide +kernel, by decide +kernel,
    ⟨by decide +kernel, fun h => absurd ((LineState.flowPaused_iff _).2 h) (by decide +kernel)⟩, by decide +kernel,
    (LineState.flowPaused_iff _).1 (by decide +kernel)⟩

/-- A line 0 that may start a frame, with entries in its transmit queue. -/
def loaded (control : Option Control) (data : List DataEntry) : State :=
  withLine0 (fun ln => { ln with rx := .ready, control := control, data := data }) (inMode .run)

/-- A PUBLISH entry and a REPLY entry of a priority. -/
def entry0 (p : Fin 4) : DataEntry := { item := publish0, priority := p, snapshot := [1, 2] }
def reply0 (p : Fin 4) : DataEntry := { item := .reply true 0x30210, priority := p, snapshot := [] }

/-- A line 0 with a frame in flight. -/
def flying (f : Flight) (hold : LineHold) (rx : Rx) : State :=
  withLine0 (fun ln => { ln with flight := some f, hold := hold, rx := rx }) (inMode .run)

/-- Characters of the frame in flight heard back: the first, the last, and another one. -/
theorem witness_TransmittersSendAndBackOff_echo :
    (let f := flight0 (.data publish0) 1 true
     f.bytes[f.echoed]? = some 1 ∧ f.echoed + 1 < f.bytes.length ∧ wireChar 2 ≠ wireChar 1 ∧ (0 : WireChar) ≠ wireChar 1) ∧
    (let f := { flight0 (.data publish0) 1 true with echoed := 1 }
     f.bytes[f.echoed]? = some 2 ∧ f.echoed + 1 = f.bytes.length) := by decide +kernel

/-- Lines whose count asks the flow control for a PAUSE, for a RESUME, and for nothing, and one with flow control off. -/
theorem witness_TransmittersSendAndBackOff_flow :
    (let ln := (flowing 6 (some .resume) .run).line 0
     (ln.settings.flow = true ∧ ln.settings.high ≤ ln.rxQueue.length) ∧ ¬ln.toldPaused) ∧
    (let ln := (flowing 2 (some .pause) .run).line 0
     (ln.settings.flow = true ∧ ln.rxQueue.length < ln.settings.high ∧ ln.rxQueue.length ≤ ln.settings.low) ∧ ln.toldPaused) ∧
    (let ln := (flowing 6 (some .pause) .run).line 0
     ln.settings.high ≤ ln.rxQueue.length ∧ ln.toldPaused) ∧
    (let ln := (flowing 3 (some .pause) .run).line 0
     ln.rxQueue.length < ln.settings.high ∧ ln.settings.low < ln.rxQueue.length) ∧ enabled0.flow = false :=
  ⟨⟨by decide +kernel, fun h => absurd ((LineState.flowPaused_iff _).2 h) (by decide +kernel)⟩,
    ⟨by decide +kernel, (LineState.flowPaused_iff _).1 (by decide +kernel)⟩,
    ⟨by decide +kernel, (LineState.flowPaused_iff _).1 (by decide +kernel)⟩, by decide +kernel, by decide⟩

theorem witness_TransmittersSendAndBackOff :
    ((loaded (some .pause) []).resetHeld = false ∧ (loaded (some .pause) []).mayStart 0 = true ∧
      ((loaded (some .pause) []).line 0).control = some .pause) ∧
    (let s := loaded none [entry0 1, reply0 3, entry0 3, entry0 0]
     s.resetHeld = false ∧ s.mayStart 0 = true ∧ (s.line 0).control = none ∧ (s.line 0).pauseSet = [] ∧
       reply0 3 ∈ (s.line 0).data ∧ (∀ x ∈ (s.line 0).data, x.priority ≤ (reply0 3).priority) ∧
       (s.line 0).data.find? (fun x => x.priority == (reply0 3).priority) = some (reply0 3)) ∧
    (∀ item ∈ [FlightItem.control .pause, .data publish0, .data (.reply false 7)], ∀ n ∈ [0, 2, 3],
      let s := flying (flight0 item n true) .off .echo
      s.resetHeld = false ∧ (s.line 0).flight = some (flight0 item n true) ∧ (flight0 item n true).sending = true ∧
        (s.line 0).hold = .off) ∧
    (let s := flying (flight0 (.data publish0) 1 true) (.waiting 20 false) .echo
     (s.line 0).flight = some (flight0 (.data publish0) 1 true) ∧ (s.line 0).hold = .waiting 20 false) ∧
    (let s := flying (flight0 (.data publish0) 1 false) .off .ready
     (s.line 0).flight = some (flight0 (.data publish0) 1 false) ∧ (s.line 0).rx = .ready) ∧
    (let s := moving .drain .config (flying (flight0 (.data publish0) 1 false) .off .stopped)
     (s.line 0).flight = some (flight0 (.data publish0) 1 false) ∧ s.lineActive 0 = false) := by decide +kernel

/-! ## Headlines: the invariants hold at a state whose step does something -/

theorem witness_TransactionsStandForTheirCommands :
    (Instr.setLayout 384 64 64).wellFormed = true ∧
    encodeTransaction (.setLayout 384 64 64) = some [0xA1, 0x18, 1, 0x80, 0, 64, 0, 64] ∧
    (Instr.result 11).wellFormed = true ∧ (encodeTransaction (.result 11)).isSome = true := by decide +kernel

/-- A state with every invariant and a command whose step changes it. -/
def ready0 : State := { inMode .run with pending := [.tick, .popNotice] }

theorem step_ready0 : ∃ t, step ready0 = .next t ∧ t.tick = 1 := ⟨_, rfl, by decide +kernel⟩

theorem witness_EveryStepKeepsKeysApart : keysNeverOverlap ready0 ∧ ∃ t, step ready0 = .next t := by
  refine ⟨fun i j k k' _ h => ?_, _, rfl⟩
  rw [slotAt_empty (s := ready0) rfl] at h
  exact absurd h (by decide)

theorem witness_EveryStepKeepsTheQueuesBounded :
    noticesBounded ready0 ∧ queuesBounded ready0 ∧ ∃ t, step ready0 = .next t := by
  have e : ∀ l : LineId, (ready0.line l).rxQueue.length ≤ 8 ∧ (ready0.line l).data.length ≤ 8 ∧ (ready0.line l).flight = none := by
    decide +kernel
  refine ⟨⟨by decide, by decide⟩, fun l => ⟨(e l).1, (e l).2.1, fun f h => ?_⟩, _, rfl⟩
  rw [(e l).2.2] at h
  cases h

theorem witness_EveryStepKeepsTheArbiterInRange :
    arbiterInRange ready0 ∧ layoutCovers ready0 ∧ ∃ t, step ready0 = .next t := by
  refine ⟨?_, ⟨rfl, fun y h => ?_⟩, _, rfl⟩
  · unfold arbiterInRange
    decide +kernel
  · cases h

theorem witness_EveryStepKeepsHoldsAndValues : holdsAgree ready0 ∧ valuesAgree ready0 ∧ ∃ t, step ready0 = .next t := by
  have e : ∀ i, ready0.slotAt i = Slot.reset := slotAt_empty rfl
  refine ⟨⟨by decide, by decide, fun i => ?_, fun i _ => by rw [e]; rfl⟩, fun i => ?_, _, rfl⟩
  · rw [e]
    simp [Slot.reset, ready0, inMode, config, State.reset]
  · rw [e]
    simp [Slot.reset]

theorem witness_EveryStepKeepsTheModesInAgreement : modesAgree ready0 ∧ ∃ t, step ready0 = .next t := by
  refine ⟨?_, _, rfl⟩
  unfold modesAgree
  decide +kernel

/-! ## One step of each family -/

/-- The state that a command answers. -/
def next : Answer → State
  | .next s => s
  | _ => State.reset

theorem test_records : code (exec (.read handle0) (holding .bound .run)) = some .ok ∧
    code (exec (.write handle0 value0 2) (holding .bound .run)) = some .badArgument ∧
    code (exec (.hold handle0 0) (holding .bound .run)) = some .badArgument ∧
    code (exec (.release handle0 0) (held (some update0))) = some .ok ∧
    ((next (exec (.release handle0 0) (held (some update0)))).slotAt 0).body.value = some [1] ∧
    code (exec (.retire stale0) (holding .learned .run)) = some .staleHandle ∧
    code (exec (.read handle0) (holding .bound .standby)) = some .wrongMode := by decide +kernel

theorem test_write_publishes_on_the_line_set :
    (next (exec (.write handle0 value0 1) (holding .exported .run))).lines.toList.map (·.data.length) = [1, 0, 1, 0] := by
  decide +kernel

theorem test_fault : ((next (exec (.upset 0) (next (exec (.upset 0) (holding .bound .run))))).slotAt 0).integrity = .double ∧
    code (exec (.read handle0) (next (exec (.upset 0) (next (exec (.upset 0) (holding .bound .run)))))) = some .faulted := by
  decide +kernel

theorem test_classes_and_lines : code (exec (.setClass classBytes0) config) = some .ok ∧
    code (exec .commitClasses (inMode .listen)) = some .ok ∧ code (exec (.setShares 0 1) config) = some .badArgument ∧
    code (exec (.setLine (settingsBytes0 1)) config) = some .ok ∧
    code (exec (.setLine (settingsBytes0 1)) (inMode .run)) = some .wrongMode ∧
    code (exec (.lineHold 2 5 0) (inMode .run)) = some .ok ∧ code (exec (.lineAbort 4) (inMode .run)) = some .badArgument := by
  decide +kernel

theorem test_unit_commands : code (exec .popNotice config) = some .empty ∧ code (exec (.setTiming 0 0) config) = some .badArgument ∧
    code (exec (.setNotice 65 0) config) = some .badArgument ∧ code (exec (.clearConditions 0x7F) config) = some .ok ∧
    code (exec .readFault config) = some .ok ∧ code (exec (.readCounters 3 1) (standbyFrom .config)) = some .wrongMode := by
  decide +kernel

theorem test_modes : (next (exec (.requestMode 2) config)).slot = .pending (.requestMode .run) ∧
    (next (exec .immediateTransition (next (exec (.requestMode 2) config)))).mode = .run ∧
    (next (exec .softReset (next (exec .reset (inMode .run))))).mode = .config ∧
    (next (exec .startupComplete State.reset)).mode = .config := by decide +kernel

theorem test_update_applied :
    ((next (exec (.update 0) (arrived .update { record .bound with state := .stale } .bind .run))).slotAt 0).state = .fresh ∧
    ((next (exec (.update 0) (arrived .update { record .bound with state := .stale } .bind .run))).notices.map Notice.kind) =
      [.recovered] := by decide +kernel

theorem test_update_of_a_broken_record :
    let s := next (exec (.update 0) (arrived .update (broken .double (record .bound)) .bind .run))
    (s.slotAt 0).state = .faulted ∧ (s.slotAt 0).key = some key0 ∧ (s.slotAt 0).gen = 1 ∧ s.notices.map Notice.kind = [.faulted] ∧
      (s.line 0).counters.refused = 1 ∧ (s.line 0).counters.framesTaken = 1 := by decide +kernel

theorem test_sweep_visit_makes_stale :
    ((next (exec .sweepVisit (sweeping 7 (record .bound)))).slotAt 7).state = .stale ∧
    (next (exec .sweepVisit (sweeping 7 (record .bound)))).sweep = some { now := 200, pos := 8 } := by decide +kernel

theorem test_last_character_completes :
    ((next (exec (.characterReceived 0 (wireChar last0)) (hearing (.assembling chars0)))).line 0).rx =
      .complete { kind := .update, source := 33, ident := 0x30210, payload := [] } := by decide +kernel

theorem test_frame_start_takes_the_highest_priority :
    ((next (exec (.frameStart 0) (loaded none [entry0 1, reply0 3, entry0 3]))).line 0).data = [entry0 1, entry0 3] := by
  decide +kernel

end Sys2Proof.Tests
end

section
/-! PROOFS. PURGE: how the port reads its arguments (R19), and what a granted visit does to the table (R20). -/

namespace Sys2Proof.Machine

/-! ## The arguments of a PURGE -/

/-- The port reads a truth value back from its byte. -/
theorem decodeBool_boolByte (b : Bool) : decodeBool (boolByte b) = some b := by
  cases b <;> rfl

/-- A byte is no truth value exactly when it is above 1. -/
theorem decodeBool_eq_none_iff {b : Byte} : decodeBool b = none ↔ 1 < b.toNat := by
  unfold decodeBool
  by_cases h0 : b = 0
  · simp [h0]
  by_cases h1 : b = 1
  · simp [h1]
  · simp only [h0, h1, if_false, true_iff]
    bv_omega

/-- A byte is no line exactly when it is above 3. -/
theorem decodeLine_eq_none_iff {b : Byte} : decodeLine b = none ↔ 3 < b.toNat := by
  unfold decodeLine
  by_cases h : b.toNat < 4
  · simp only [dif_pos h, reduceCtorEq, false_iff]
    omega
  · simp only [dif_neg h, true_iff]
    omega

/-- The port reads a line, or ANY, back from its code. -/
theorem decodeLineOrAny_lineCode (named : Option LineId) : decodeLineOrAny (lineCode named) = some named := by
  cases named with
  | none => rfl
  | some l =>
    have notAny : lineCode (some l) ≠ 0xFF := by
      fin_cases l <;> decide
    rw [decodeLineOrAny, if_neg notAny, lineCode, byteOf, decodeLine_ofNat, Option.map_some]

/-- A byte is neither a line nor ANY exactly when it is above 3 and not 0xFF. -/
theorem decodeLineOrAny_eq_none_iff {b : Byte} : decodeLineOrAny b = none ↔ 3 < b.toNat ∧ b ≠ 0xFF := by
  unfold decodeLineOrAny
  by_cases h : b = 0xFF
  · simp [h]
  · rw [if_neg h, Option.map_eq_none_iff, decodeLine_eq_none_iff, and_iff_left h]

/-- The bits above the three regions are clear exactly when the region set is at most 7. -/
theorem regionSet_highBits_iff (regions : Byte) : regions.extractLsb' 3 5 = 0#5 ↔ regions.toNat ≤ 7 := by
  rw [← BitVec.toNat_inj, BitVec.extractLsb'_toNat, Nat.shiftRight_eq_div_pow]
  have := regions.isLt
  simp only [BitVec.toNat_ofNat]
  omega

/-- A PURGE whose arguments are in range is read as they stand (R19). -/
theorem decodePurge_inRange {regions : Byte} (named : Option LineId) (staleOnly faulted : Bool) (h1 : 1 ≤ regions.toNat)
    (h7 : regions.toNat ≤ 7) :
    decodePurge regions (lineCode named) (boolByte staleOnly) (boolByte faulted) = some
      { bound := regions.getLsbD 0, learned := regions.getLsbD 1, exported := regions.getLsbD 2, line := named,
        staleOnly := staleOnly, faultedToo := faulted } := by
  have nonempty : regions ≠ 0#8 := by bv_omega
  have high := (regionSet_highBits_iff regions).2 h7
  simp [decodePurge, decodeLineOrAny_lineCode, decodeBool_boolByte, nonempty, high]

/-- A PURGE with an argument out of range is not read (R19). -/
theorem decodePurge_outOfRange {regions line filter faultedToo : Byte}
    (h : regions = 0 ∨ 7 < regions.toNat ∨ (3 < line.toNat ∧ line ≠ 0xFF) ∨ 1 < filter.toNat ∨ 1 < faultedToo.toNat) :
    decodePurge regions line filter faultedToo = none := by
  rw [Option.eq_none_iff_forall_ne_some]
  intro f hf
  simp only [decodePurge, Option.bind_eq_bind, Option.bind_eq_some_iff] at hf
  obtain ⟨l, hl, staleOnly, hb, faulted, ht, read⟩ := hf
  rw [← decodeLineOrAny_eq_none_iff, ← decodeBool_eq_none_iff, ← decodeBool_eq_none_iff, hl, hb, ht, ← Nat.not_le,
    ← regionSet_highBits_iff] at h
  have refused : (regions = 0 || regions.extractLsb' 3 5 != 0) = true := by simpa using h
  rw [if_pos refused] at read
  cases read

/-- PURGE is the host command of its decoded arguments (R19). -/
theorem exec_purge (regions line filter faultedToo : Byte) {s : State} (hr : s.resetHeld = false) :
    exec (.purge regions line filter faultedToo) s =
      .next (hostCommand 4 inService (decodePurge regions line filter faultedToo) State.startPurge s) :=
  whilePowered_released _ hr

/-! ## The visits of a PURGE -/

/-- What a visit leaves for the next one, and the last one for the host: the position moved on with the count, or the command
completed with the count (R20). -/
def State.purgeMoved (p : PurgeRun) (n : Nat) (s : State) : State :=
  if p.pos + 1 < 512 then { s with purge := some { pos := p.pos + 1, retired := n } }
  else { s with purge := none, slot := .done .ok (halfBytes (BitVec.ofNat 16 n)) }

/-- Moving on writes the purge and the command slot alone. -/
theorem State.purgeMoved_writes (p : PurgeRun) (n : Nat) (s : State) :
    s.purgeMoved p n = { s with purge := (s.purgeMoved p n).purge, slot := (s.purgeMoved p n).slot } := by
  unfold State.purgeMoved
  split <;> rfl

theorem State.slotAt_purgeMoved (p : PurgeRun) (n : Nat) (s : State) (j : Nat) : (s.purgeMoved p n).slotAt j = s.slotAt j := by
  rw [State.purgeMoved_writes]
  rfl

theorem State.line_purgeMoved (p : PurgeRun) (n : Nat) (s : State) (l : LineId) : (s.purgeMoved p n).line l = s.line l := by
  rw [State.purgeMoved_writes]
  rfl

@[simp] theorem State.purgeMoved_holds (p : PurgeRun) (n : Nat) (s : State) : (s.purgeMoved p n).holds = s.holds := by
  rw [State.purgeMoved_writes]

@[simp] theorem State.purgeMoved_lines (p : PurgeRun) (n : Nat) (s : State) : (s.purgeMoved p n).lines = s.lines := by
  rw [State.purgeMoved_writes]

/-- A visit before slot 511 moves the position on, and the command stays PENDING. -/
theorem State.purgeMoved_on {p : PurgeRun} (n : Nat) (s : State) (h : p.pos < 511) :
    (s.purgeMoved p n).purge = some { pos := p.pos + 1, retired := n } ∧ (s.purgeMoved p n).slot = s.slot := by
  rw [State.purgeMoved, if_pos (by omega)]
  exact ⟨rfl, rfl⟩

/-- The visit to slot 511 ends the purge, and the command answers OK with the count. -/
theorem State.purgeMoved_last {p : PurgeRun} (n : Nat) (s : State) (h : p.pos = 511) :
    (s.purgeMoved p n).purge = none ∧ (s.purgeMoved p n).slot = .done .ok (halfBytes (BitVec.ofNat 16 n)) := by
  rw [State.purgeMoved, if_neg (by omega)]
  exact ⟨rfl, rfl⟩

/-- PURGE_VISIT is a step of the PURGE in the command slot (R20). -/
theorem exec_purgeVisit {s : State} (hr : s.resetHeld = false) : exec .purgeVisit s = .next s.purgeStep :=
  whilePowered_released _ hr

/-- A granted visit whose slot passes the filters retires its record and counts it (R20). -/
theorem exec_purgeVisit_hit {f : PurgeFilter} {p : PurgeRun} {s : State} (hr : s.resetHeld = false)
    (hs : s.slot = .pending (.purge f)) (hp : s.purge = some p) (hg : s.grantNext = some .command)
    (hit : f.passes (s.layout.kindAt p.pos) (s.slotAt p.pos) = true) :
    exec .purgeVisit s = .next ((s.grantCommand.retire p.pos).purgeMoved p (p.retired + 1)) := by
  rw [exec_purgeVisit hr, State.purgeStep_granted hs hp hg, State.purgeVisitAt_retires (s := s.grantCommand) hit]
  rfl

/-- A granted visit whose slot does not pass the filters only moves on (R20). -/
theorem exec_purgeVisit_miss {f : PurgeFilter} {p : PurgeRun} {s : State} (hr : s.resetHeld = false)
    (hs : s.slot = .pending (.purge f)) (hp : s.purge = some p) (hg : s.grantNext = some .command)
    (miss : f.passes (s.layout.kindAt p.pos) (s.slotAt p.pos) = false) :
    exec .purgeVisit s = .next (s.grantCommand.purgeMoved p p.retired) := by
  rw [exec_purgeVisit hr, State.purgeStep_granted hs hp hg, State.purgeVisitAt_leaves (s := s.grantCommand) miss]
  rfl

/-- Settles O24: the arguments by the decoders' lemmas, a visit by whether the slot's record passes the filters. -/
theorem purgeWalksTheTable : Obligations.PurgeWalksTheTable := by
  unfold Obligations.PurgeWalksTheTable
  refine fun s => ⟨fun regions line filter faultedToo hs => ?arguments, ?visit⟩
  case arguments =>
    obtain ⟨released, opened, served⟩ := State.servesHost_iff.1 hs
    rw [exec_purge _ _ _ _ released]
    refine ⟨fun f hf => ?started, ?inRange, fun bad => ?outOfRange⟩
    case started =>
      rw [hf, hostCommand_run 4 f _ opened served]
      rfl
    case inRange =>
      rintro named staleOnly faulted h1 h7 rfl rfl rfl
      exact decodePurge_inRange named staleOnly faulted h1 h7
    case outOfRange => rw [decodePurge_outOfRange bad, hostCommand_badArgument 4 _ opened served]
  case visit =>
    intro f p hr hs hp hpos hg
    dsimp only
    rw [← PurgeFilter.passes_iff]
    cases hit : f.passes (s.layout.kindAt p.pos) (s.slotAt p.pos) with
    | false =>
      refine ⟨_, exec_purgeVisit_miss hr hs hp hg hit, ?_, fun j _ => State.slotAt_purgeMoved _ _ _ j, nofun, fun _ => ?_⟩
      · rw [State.purgeMoved_writes]
        rfl
      · exact ⟨State.slotAt_purgeMoved _ _ _ _, State.purgeMoved_holds _ _ _, State.purgeMoved_lines _ _ _,
          State.purgeMoved_on _ _, State.purgeMoved_last _ _⟩
    | true =>
      refine ⟨_, exec_purgeVisit_hit hr hs hp hg hit, ?_, fun j hj => ?_, fun _ => ⟨?_, ?_, fun l => ?_, ?_, ?_⟩,
        fun c => absurd rfl c⟩
      · rw [State.purgeMoved_writes]
        rfl
      · rw [State.slotAt_purgeMoved, State.slotAt_retire, if_neg fun c => hj c.1]
        rfl
      · rw [State.slotAt_purgeMoved, State.slotAt_retire, if_pos ⟨rfl, hpos⟩]
        rfl
      · exact State.purgeMoved_holds _ _ _
      · rw [State.line_purgeMoved, State.line_retire]
        rfl
      · exact State.purgeMoved_on _ _
      · exact State.purgeMoved_last _ _

end Sys2Proof.Machine
end

section
/-! PROOFS. READ_COUNTERS: how the port reads its arguments, and what its line block answers and clears (R86). -/

namespace Sys2Proof.Machine

/-! ## Modes -/

/-- Past the start-up, the mode serves the host's line commands unless it is STANDBY (R147). -/
theorem inService_of_ne {m : Mode} (started : m ≠ .starting) (awake : m ≠ .standby) : inService m = true := by
  cases m with
  | starting => exact absurd rfl started
  | standby => exact absurd rfl awake
  | config | run | listen => rfl

/-! ## The arguments of READ_COUNTERS -/

/-- A line number with a clear byte is read as that line and whatever the clear byte means. -/
theorem decodeReadCounters_ofNat (l : LineId) (clear : Byte) :
    decodeReadCounters (BitVec.ofNat 8 l.val) clear = (decodeBool clear).map (l, ·) := by
  unfold decodeReadCounters
  rw [decodeLine_ofNat]
  cases decodeBool clear <;> rfl

/-- READ_COUNTERS with an argument out of range is not read. -/
theorem decodeReadCounters_outOfRange {line clear : Byte} (h : 3 < line.toNat ∨ 1 < clear.toNat) :
    decodeReadCounters line clear = none := by
  rw [← decodeLine_eq_none_iff, ← decodeBool_eq_none_iff] at h
  unfold decodeReadCounters
  cases h with
  | inl noLine => rw [noLine]; rfl
  | inr noBool =>
    rw [noBool]
    cases decodeLine line <;> rfl

/-! ## The command -/

/-- READ_COUNTERS is the host command of its decoded arguments. -/
theorem exec_readCounters (line clear : Byte) {s : State} (hr : s.resetHeld = false) :
    exec (.readCounters line clear) s =
      .next (hostCommand 2 inService (decodeReadCounters line clear) (fun a => State.readCounters a.1 a.2) s) :=
  whilePowered_released _ hr

/-- Reading without clearing answers the counters and changes nothing else. -/
theorem State.readCounters_keep (l : LineId) (s : State) :
    (s.taken 2).readCounters l false = s.answered 2 .ok (counterBytes (s.line l).counters) := rfl

/-- Reading with clear yes answers the counters as they stood and sets all eight to 0. -/
theorem State.readCounters_clear (l : LineId) (s : State) :
    (s.taken 2).readCounters l true =
      (s.answered 2 .ok (counterBytes (s.line l).counters)).withLine l { s.line l with counters := Counters.zero } := rfl

/-- READ_COUNTERS of a line, taken outside STANDBY, is the line block's own reading. -/
theorem exec_readCounters_run (l : LineId) (clear : Bool) {s : State} (hr : s.resetHeld = false) (hc : s.portClosed = false)
    (hm : inService s.mode = true) :
    exec (.readCounters (BitVec.ofNat 8 l.val) (boolByte clear)) s = .next ((s.taken 2).readCounters l clear) := by
  rw [exec_readCounters _ _ hr, decodeReadCounters_ofNat, decodeBool_boolByte, Option.map_some, hostCommand_run 2 _ _ hc hm]

/-- Settles O30: by the mode, then by whether the arguments are in range, then by the clear value. -/
theorem readCountersReadsAndClears : Obligations.ReadCountersReadsAndClears := by
  unfold Obligations.ReadCountersReadsAndClears
  intro line clear s isOpen
  obtain ⟨released, opened⟩ := State.portOpen_iff.1 isOpen
  have started : s.mode ≠ .starting := (State.portClosed_eq_false.1 opened).1
  refine ⟨fun standby => ?wrongMode, fun awake bad => ?badArgument, fun awake l hl => ?served⟩
  case wrongMode =>
    have notServed : inService s.mode = false := by rw [standby]; rfl
    rw [exec_readCounters _ _ released, hostCommand_wrongMode 2 _ _ opened notServed]
  case badArgument =>
    rw [exec_readCounters _ _ released, decodeReadCounters_outOfRange bad,
      hostCommand_badArgument 2 _ opened (inService_of_ne started awake)]
  case served =>
    subst hl
    have reads := fun c => exec_readCounters_run l c released opened (inService_of_ne started awake)
    refine ⟨?kept, ?cleared⟩
    case kept =>
      rintro rfl
      rw [← State.readCounters_keep]
      exact reads false
    case cleared =>
      rintro rfl
      rw [← State.readCounters_clear]
      exact reads true

end Sys2Proof.Machine
end

section
/-! PROOFS. SET_SHARES and SET_TIMING: how the port reads their arguments, and what each sets in CONFIG (R51, R118). -/

namespace Sys2Proof.Machine

/-! ## Modes and bytes -/

/-- A command for CONFIG alone is not served in another mode (R147). -/
theorem inConfig_of_ne {m : Mode} (h : m ≠ .config) : inConfig m = false := by
  cases m with
  | config => exact absurd rfl h
  | starting | standby | run | listen => rfl

/-- An argument byte that was read as a number is answered as it was sent. -/
theorem byteOf_toNat (b : Byte) : byteOf b.toNat = b := by
  rw [byteOf, BitVec.ofNat_toNat, BitVec.setWidth_eq]

/-! ## The arguments -/

/-- A field share of 1 to 15 and a sweep share of 1 to 255 are read as themselves (R51). -/
theorem decodeShares_inRange {f w : Byte} (f1 : 1 ≤ f.toNat) (f15 : f.toNat ≤ 15) (w1 : 1 ≤ w.toNat) :
    decodeShares f w = some (f.toNat, w.toNat) := by
  simp [decodeShares, f1, f15, w1]

/-- SET_SHARES with an argument out of range is not read (R51). -/
theorem decodeShares_outOfRange {f w : Byte} (h : f.toNat = 0 ∨ 15 < f.toNat ∨ w.toNat = 0) : decodeShares f w = none := by
  have notAll : ¬(1 ≤ f.toNat && f.toNat ≤ 15 && 1 ≤ w.toNat) = true := by
    simp only [Bool.and_eq_true, decide_eq_true_eq]
    omega
  exact if_neg notAll

/-- A tick period of 1 to 250 ms is read as itself, with whatever learned expiry (R118). -/
theorem decodeTiming_inRange {period : Byte} (expiry : Half) (p1 : 1 ≤ period.toNat) (p250 : period.toNat ≤ 250) :
    decodeTiming period expiry = some (period.toNat, expiry) := by
  simp [decodeTiming, p1, p250]

/-- SET_TIMING with a tick period out of range is not read (R118). -/
theorem decodeTiming_outOfRange {period : Byte} (expiry : Half) (h : period.toNat = 0 ∨ 250 < period.toNat) :
    decodeTiming period expiry = none := by
  have notBoth : ¬(1 ≤ period.toNat && period.toNat ≤ 250) = true := by
    simp only [Bool.and_eq_true, decide_eq_true_eq]
    omega
  exact if_neg notBoth

/-! ## The commands -/

/-- SET_SHARES is the CONFIG command of its decoded arguments. -/
theorem exec_setShares (f w : Byte) {s : State} (hr : s.resetHeld = false) :
    exec (.setShares f w) s = .next (hostCommand 2 inConfig (decodeShares f w) (fun a => State.setShares a.1 a.2) s) :=
  whilePowered_released _ hr

/-- SET_TIMING is the CONFIG command of its decoded arguments. -/
theorem exec_setTiming (period : Byte) (expiry : Half) {s : State} (hr : s.resetHeld = false) :
    exec (.setTiming period expiry) s =
      .next (hostCommand 3 inConfig (decodeTiming period expiry) (fun a => State.setTiming a.1 a.2) s) :=
  whilePowered_released _ hr

/-- The arbiter takes both shares, restarts its run and its sweep wait, and keeps its line pointer (R51). -/
theorem State.setShares_taken (f w : Byte) (s : State) :
    (s.taken 2).setShares f.toNat w.toNat =
      { s.answered 2 .ok [f, w] with
        arb := { fieldShare := f.toNat, sweepShare := w.toNat, run := 0, pointer := s.arb.pointer, sweepWait := 0 } } := by
  rw [State.setShares, byteOf_toNat, byteOf_toNat]
  rfl

/-- The tick unit takes the period and the learned expiry, and nothing else of it changes (R118). -/
theorem State.setTiming_taken (period : Nat) (expiry : Half) (s : State) :
    (s.taken 3).setTiming period expiry = { s.answered 3 .ok [] with tickPeriod := period, learnedExpiry := expiry } := rfl

/-- Settles O27: by the mode, then for each command by whether its arguments are in range. -/
theorem sharesAndTimingAreSetInConfig : Obligations.SharesAndTimingAreSetInConfig := by
  unfold Obligations.SharesAndTimingAreSetInConfig
  intro x y expiry s isOpen
  obtain ⟨released, opened⟩ := State.portOpen_iff.1 isOpen
  rw [exec_setShares x y released, exec_setTiming x expiry released]
  refine ⟨fun elsewhere => ?wrongMode, fun config => ?inConfig⟩
  case wrongMode =>
    have notServed := inConfig_of_ne elsewhere
    exact ⟨congrArg _ (hostCommand_wrongMode 2 _ _ opened notServed), congrArg _ (hostCommand_wrongMode 3 _ _ opened notServed)⟩
  case inConfig =>
    have served : inConfig s.mode = true := by rw [config]; rfl
    refine ⟨fun f1 f15 w1 => ?shares, fun bad => ?sharesOutOfRange, fun p1 p250 => ?timing, fun bad => ?timingOutOfRange⟩
    case shares => rw [decodeShares_inRange f1 f15 w1, hostCommand_run 2 _ _ opened served, State.setShares_taken]
    case sharesOutOfRange => rw [decodeShares_outOfRange bad, hostCommand_badArgument 2 _ opened served]
    case timing => rw [decodeTiming_inRange expiry p1 p250, hostCommand_run 3 _ _ opened served, State.setTiming_taken]
    case timingOutOfRange => rw [decodeTiming_outOfRange expiry bad, hostCommand_badArgument 3 _ opened served]

end Sys2Proof.Machine
end

section
/-! PROOFS. LINE_ABORT: what it removes, counts and answers (R135). -/

namespace Sys2Proof.Machine

/-- LINE_ABORT empties the data part of its line, counts its PUBLISH entries as SKIPPED and its REPLY entries as UNANSWERED, and
leaves the rest of the line as it was (R135). -/
theorem LineState.abort_writes (ln : LineState) :
    ∃ x y : Half, ln.abort = { ln with data := [], counters := { ln.counters with skipped := x, unanswered := y } } ∧
      x.toNat = min 65535 (ln.counters.skipped.toNat + ln.data.countP DataEntry.isPublish) ∧
      y.toNat = min 65535 (ln.counters.unanswered.toNat + ln.data.countP fun e => !e.isPublish) := by
  obtain ⟨x, skips, toNat_x⟩ := LineState.countTimes_skipped (ln.data.countP DataEntry.isPublish) { ln with data := [] }
  obtain ⟨y, fails, toNat_y⟩ := LineState.countTimes_unanswered (ln.data.countP fun e => !e.isPublish)
    { ln with data := [], counters := { ln.counters with skipped := x } }
  exact ⟨x, y, by rw [LineState.abort, skips, fails], toNat_x, toNat_y⟩

/-- LINE_ABORT is the host command of its decoded line. -/
theorem exec_lineAbort (line : Byte) {s : State} (hr : s.resetHeld = false) :
    exec (.lineAbort line) s = .next (hostCommand 1 inService (decodeLine line) State.lineAbort s) :=
  whilePowered_released _ hr

/-- LINE_ABORT of a line, taken outside STANDBY, aborts on that line and answers both numbers. -/
theorem exec_lineAbort_run (l : LineId) {s : State} (served : s.servesHost = true) :
    exec (.lineAbort (BitVec.ofNat 8 l.val)) s =
      .next ((s.answered 1 .ok
        [byteOf ((s.line l).data.countP DataEntry.isPublish), byteOf ((s.line l).data.countP fun e => !e.isPublish)]).setLine l
          (s.line l).abort) := by
  obtain ⟨released, opened, awake⟩ := State.servesHost_iff.1 served
  rw [exec_lineAbort _ released, decodeLine_ofNat, hostCommand_run 1 _ _ opened awake]
  rfl

/-- Settles O32: by the mode, then by whether the line is in range; only the line named is written. -/
theorem lineAbortEmptiesTheDataPart : Obligations.LineAbortEmptiesTheDataPart := by
  unfold Obligations.LineAbortEmptiesTheDataPart
  intro s
  refine ⟨fun line isOpen standby => ?wrongMode, fun line served bad => ?badArgument, fun served l => ?served⟩
  case wrongMode =>
    obtain ⟨released, opened⟩ := State.portOpen_iff.1 isOpen
    have notServed : inService s.mode = false := by rw [standby]; rfl
    rw [exec_lineAbort _ released, hostCommand_wrongMode 1 _ _ opened notServed]
  case badArgument =>
    obtain ⟨released, opened, awake⟩ := State.servesHost_iff.1 served
    rw [exec_lineAbort _ released, decodeLine_eq_none_iff.2 bad, hostCommand_badArgument 1 _ opened awake]
  case served =>
    obtain ⟨x, y, aborted, skipped, unanswered⟩ := LineState.abort_writes (s.line l)
    refine ⟨_, exec_lineAbort_run l served, rfl, ?_⟩
    rw [State.line_setLine, if_pos rfl, aborted]
    refine ⟨rfl, rfl, rfl, skipped, unanswered, fun k other => ?others, rfl⟩
    case others =>
      rw [State.line_setLine, if_neg other]
      rfl

end Sys2Proof.Machine
end

section
/-! PROOFS. RETIRE and HOLD: the engine operation that each becomes at the port, and what it answers and changes (R153, R155). -/

namespace Sys2Proof.Machine

/-! ## RETIRE -/

/-- RETIRE is the host command of its decoded handle. -/
theorem exec_retire (h : HandleArg) {s : State} (released : s.resetHeld = false) :
    exec (.retire h) s = .next (hostCommand 3 inService ((decodeHandle h).map HostCommand.retire) requestEngine s) :=
  whilePowered_released _ released

/-- A RETIRE taken while the engine is free is its operation, carried out at once (R44, R153). -/
theorem exec_retire_atEngine {h : HandleArg} {s : State} (served : s.servesHost = true) (free : s.engineFree = true)
    (inTable : h.slot.toNat < 512) :
    exec (.retire h) s =
      .next ((s.atEngine 3 (.retire { slot := h.slot.toNat, gen := h.gen })).opRetire { slot := h.slot.toNat, gen := h.gen }) := by
  obtain ⟨released, opened, awake⟩ := State.servesHost_iff.1 served
  rw [exec_retire h released, decodeHandle_of_lt inTable, Option.map_some, hostCommand_atEngine 3 _ opened awake free]
  rfl

/-- A handle argument that names a record is the handle of that record's slot (R11). -/
theorem State.handleAt_of_names {h : HandleArg} {s : State} (named : s.names h = true) :
    s.handleAt h.slot.toNat = { slot := h.slot.toNat, gen := h.gen } := by
  rw [State.handleAt, State.gen_of_names named]

/-- Settles O18: by whether the handle is current; a record is retired through the common effects of R17. -/
theorem retireEmptiesTheSlot : Obligations.RetireEmptiesTheSlot := by
  unfold Obligations.RetireEmptiesTheSlot
  intro h s served free inTable
  rw [exec_retire_atEngine served free inTable]
  refine ⟨fun stale => ?stale, fun named => ?current⟩
  case stale => rw [State.opRetire_stale (t := s.atEngine 3 _) stale, State.atEngine_complete]
  case current =>
    refine ⟨_, congrArg _ (State.opRetire_current (t := s.atEngine 3 _) named), ?table, fun l => ?line⟩
    case table =>
      rw [State.retire_eq inTable]
      rfl
    case line =>
      have sameHandle := State.handleAt_of_names named
      exact (State.line_retire _ _ l).trans (congrArg (LineState.dropPublish · (s.line l)) sameHandle)

/-! ## HOLD -/

/-- A HOLD of a slot of the table with a limit above 0 is read as it stands (R155). -/
theorem decodeHold_inRange {h : HandleArg} {limit : Byte} (inTable : h.slot.toNat < 512) (positive : limit ≠ 0) :
    decodeHold h limit = some (.hold { slot := h.slot.toNat, gen := h.gen } limit) := by
  rw [decodeHold, decodeHandle_of_lt inTable]
  exact if_neg positive

/-- A HOLD with a limit of 0 is not read, whatever its handle (R155). -/
theorem decodeHold_zero (h : HandleArg) : decodeHold h 0 = none := by
  unfold decodeHold
  cases decodeHandle h <;> rfl

/-- HOLD is the host command of its decoded arguments. -/
theorem exec_hold (h : HandleArg) (limit : Byte) {s : State} (released : s.resetHeld = false) :
    exec (.hold h limit) s = .next (hostCommand 4 inService (decodeHold h limit) requestEngine s) :=
  whilePowered_released _ released

/-- A HOLD taken while the engine is free is its operation, carried out at once (R44, R155). -/
theorem exec_hold_atEngine {h : HandleArg} {limit : Byte} {s : State} (served : s.servesHost = true) (free : s.engineFree = true)
    (inTable : h.slot.toNat < 512) (positive : limit ≠ 0) :
    exec (.hold h limit) s =
      .next ((s.atEngine 4 (.hold { slot := h.slot.toNat, gen := h.gen } limit)).opHold
        { slot := h.slot.toNat, gen := h.gen } limit) := by
  obtain ⟨released, opened, awake⟩ := State.servesHost_iff.1 served
  rw [exec_hold h limit released, decodeHold_inRange inTable positive, hostCommand_atEngine 4 _ opened awake free]
  rfl

/-- Settles O19: by the limit, then by R155's refusals in their order. -/
theorem holdAddsAnEntry : Obligations.HoldAddsAnEntry := by
  unfold Obligations.HoldAddsAnEntry
  refine fun h limit s served inTable => ⟨?zeroLimit, fun positive free => ?taken⟩
  case zeroLimit =>
    rintro rfl
    obtain ⟨released, opened, awake⟩ := State.servesHost_iff.1 served
    rw [exec_hold h 0 released, decodeHold_zero, hostCommand_badArgument 4 _ opened awake]
  case taken =>
    rw [exec_hold_atEngine served free inTable positive]
    refine ⟨fun stale => ?stale, fun named faulted => ?faulted, fun named sound =>
      ⟨fun held => ?alreadyHeld, fun unheld full => ?holdLimit, fun unheld room => ?added⟩⟩
    case stale => rw [State.opHold_stale (t := s.atEngine 4 _) limit stale, State.atEngine_complete]
    case faulted => rw [State.opHold_faulted (t := s.atEngine 4 _) limit named faulted, State.atEngine_complete]
    case alreadyHeld => rw [State.opHold_already (t := s.atEngine 4 _) named sound held, State.atEngine_complete]
    case holdLimit => rw [State.opHold_limit (t := s.atEngine 4 _) named sound unheld full, State.atEngine_complete]
    case added =>
      rw [State.opHold_ok (t := s.atEngine 4 _) named sound unheld room]
      rfl

end Sys2Proof.Machine
end

section
/-! PROOFS. The notice queue: how a posting merges, joins or is lost (R161, R162), and what POP_NOTICE takes (R163). -/

namespace Sys2Proof.Machine

/-! ## The entries of a handle -/

/-- The queue has an entry for a handle exactly when one of its entries names it. -/
theorem State.hasNotice_iff {s : State} {h : Handle} : s.hasNotice h = true ↔ ∃ e ∈ s.notices, e.handle = h := by
  simp [State.hasNotice]

/-- A handle that no entry names has no entry in the queue. -/
theorem State.hasNotice_eq_false {s : State} {h : Handle} (absent : ∀ e ∈ s.notices, e.handle ≠ h) : s.hasNotice h = false := by
  rw [Bool.eq_false_iff, Ne, State.hasNotice_iff]
  rintro ⟨e, queued, names⟩
  exact absent e queued names

/-- A change of the entries for one handle leaves a list without such an entry as it is. -/
theorem map_noticesFor_of_absent {h : Handle} {es : List Notice} (f : Notice → Notice) (absent : ∀ e ∈ es, e.handle ≠ h) :
    es.map (fun e => if e.handle = h then f e else e) = es :=
  (List.map_congr_left fun e queued => if_neg (absent e queued)).trans (List.map_id' es)

/-! ## A posting -/

/-- A posting for a handle with one entry replaces that entry's kind by the merge of the two kinds (R162). -/
theorem State.post_merges (h : Handle) (posted : NoticeKind) {s : State} {before behind : List Notice} {e : Notice}
    (queue : s.notices = before ++ e :: behind) (names : e.handle = h) (others : ∀ x ∈ before ++ behind, x.handle ≠ h) :
    s.post h posted = { s with notices := before ++ { e with kind := mergeNotice e.kind posted } :: behind } := by
  have present : s.hasNotice h = true := State.hasNotice_iff.2 ⟨e, by simp [queue], names⟩
  have ahead : ∀ x ∈ before, x.handle ≠ h := fun x hx => others x (List.mem_append_left behind hx)
  have after : ∀ x ∈ behind, x.handle ≠ h := fun x hx => others x (List.mem_append_right before hx)
  rw [State.post, if_pos present, queue, List.map_append, List.map_cons, map_noticesFor_of_absent _ ahead,
    map_noticesFor_of_absent _ after, if_pos names]

/-- A posting for a handle without an entry joins the tail of a queue with room (R161). -/
theorem State.post_joins (h : Handle) (posted : NoticeKind) {s : State} (absent : ∀ e ∈ s.notices, e.handle ≠ h)
    (room : s.notices.length < 64) :
    s.post h posted = { s with notices := s.notices ++ [{ handle := h, kind := posted, tick := s.tick, waited := 0 }] } := by
  rw [State.post, if_neg (by simp [State.hasNotice_eq_false absent]), if_pos room]

/-- A posting for a handle without an entry is lost to a full queue, and marks the slot and the overflow (R161). -/
theorem State.post_lost (h : Handle) (posted : NoticeKind) {s : State} (absent : ∀ e ∈ s.notices, e.handle ≠ h)
    (full : 64 ≤ s.notices.length) :
    s.post h posted = (s.modifySlot h.slot fun x => { x with missed := true }).raise .noticeOverflow := by
  rw [State.post, if_neg (by simp [State.hasNotice_eq_false absent]), if_neg (by omega)]

/-- Settles O37: by whether the handle has an entry and the queue has room; a merge is read off the table row by row. -/
theorem noticesMergeByTheTable : Obligations.NoticesMergeByTheTable := by
  unfold Obligations.NoticesMergeByTheTable
  intro h posted s
  refine ⟨fun before behind pending tick waited queue others => ?merges, fun absent room => ?joins, fun absent full => ?lost⟩
  case merges =>
    rw [State.post_merges h posted queue rfl others]
    refine congrArg (fun kind : NoticeKind => ({ s with
      notices := before ++ { handle := h, tick := tick, waited := waited, kind := kind } :: behind } : State)) ?cell
    case cell =>
      cases pending with
      | withdrawn => rfl
      | evicted => rfl
      | changed => cases posted <;> rfl
      | recovered => cases posted <;> rfl
      | stale => cases posted <;> rfl
      | created => cases posted <;> rfl
      | holdExpired => cases posted <;> rfl
      | faulted => cases posted <;> rfl
  case joins => exact State.post_joins h posted absent room
  case lost => exact State.post_lost h posted absent full

/-! ## POP_NOTICE -/

/-- POP_NOTICE is a host command without arguments. -/
theorem exec_popNotice {s : State} (released : s.resetHeld = false) :
    exec .popNotice s = .next (hostCommand 0 inService (some ()) (fun _ => State.popNotice) s) :=
  whilePowered_released _ released

/-- A POP_NOTICE that is served pops from the queue (R163). -/
theorem exec_popNotice_run {s : State} (served : s.servesHost = true) :
    exec .popNotice s = .next (s.taken 0).popNotice := by
  obtain ⟨released, opened, awake⟩ := State.servesHost_iff.1 served
  rw [exec_popNotice released, hostCommand_run 0 _ _ opened awake]

/-- Popping from an empty queue answers EMPTY (R163). -/
theorem State.popNotice_empty {s : State} (queue : s.notices = []) : s.popNotice = s.complete .empty [] := by
  simp only [State.popNotice, queue]

/-- Popping removes the oldest entry and answers it with the number left (R163). -/
theorem State.popNotice_oldest {s : State} {e : Notice} {rest : List Notice} (queue : s.notices = e :: rest) :
    s.popNotice = { s with notices := rest }.complete .ok (noticeImage e ++ [byteOf rest.length]) := by
  simp only [State.popNotice, queue]

/-- Settles O33: by whether the queue is empty. -/
theorem popNoticeTakesTheOldest : Obligations.PopNoticeTakesTheOldest := by
  unfold Obligations.PopNoticeTakesTheOldest
  intro s served
  rw [exec_popNotice_run served]
  refine ⟨fun queue => ?empty, fun e rest queue => ?oldest⟩
  case empty => rw [State.popNotice_empty (s := s.taken 0) queue, State.taken_complete]
  case oldest =>
    rw [State.popNotice_oldest (s := s.taken 0) queue]
    rfl

end Sys2Proof.Machine
end

section
/-! PROOFS. SET_NOTICE, SET_ROUTES and CLEAR_CONDITIONS: how the port reads their arguments and what each sets; what asserts NOTICE_N
and ALERT_N (R165, R167, R168). -/

namespace Sys2Proof.Machine

/-! ## The output lines -/

/-- Some condition with a route is set exactly when one of the seven is (R165, R167). -/
theorem State.routed_iff (s : State) (r : Route) :
    s.routed r = true ↔
      (s.conditions.lineOverrun = true ∧ s.routes.lineOverrun = r) ∨
      (s.conditions.lineCollision = true ∧ s.routes.lineCollision = r) ∨
      (s.conditions.noticeOverflow = true ∧ s.routes.noticeOverflow = r) ∨
      (s.conditions.sweepOverrun = true ∧ s.routes.sweepOverrun = r) ∨
      (s.conditions.faultCorrected = true ∧ s.routes.faultCorrected = r) ∨
      (s.conditions.faultUncorrectable = true ∧ s.routes.faultUncorrectable = r) ∨
      (s.conditions.wake = true ∧ s.routes.wake = r) := by
  simp only [State.routed, Bool.or_eq_true, Bool.and_eq_true, beq_iff_eq, or_assoc]

/-- The queue calls for NOTICE_N when it has reached the threshold, or its oldest entry has waited the hold-off (R165). -/
theorem State.noticeDue_iff (s : State) :
    s.noticeDue = true ↔
      (s.notices ≠ [] ∧ s.threshold ≤ s.notices.length) ∨ ∃ e rest, s.notices = e :: rest ∧ s.holdOff ≤ e.waited := by
  unfold State.noticeDue
  cases queue : s.notices with
  | nil => simp
  | cons head rest => simp

/-- NOTICE_N is asserted by the queue or by a set condition routed NOTICE (R165). -/
theorem State.noticeN_iff (s : State) : s.noticeN = true ↔ s.noticeDue = true ∨ s.routed .notice = true := by
  rw [State.noticeN, Bool.or_eq_true]

/-! ## The flags as bits -/

/-- The condition flag that bit `i` of the flags shows (R181). -/
def Conditions.flag (c : Conditions) : Nat → Bool
  | 0 => c.lineOverrun
  | 1 => c.lineCollision
  | 2 => c.noticeOverflow
  | 3 => c.sweepOverrun
  | 4 => c.faultCorrected
  | 5 => c.faultUncorrectable
  | 6 => c.wake
  | _ => false

/-- A truth value as a byte has it in its lowest bit and no other bit set. -/
theorem boolByte_getElem (b : Bool) {i : Nat} (hi : i < 8) : (boolByte b)[i] = (decide (i = 0) && b) := by
  cases b <;> simp [boolByte]

/-- The bits of the flags' byte are the flags (R181). -/
theorem Conditions.byte_getLsbD (c : Conditions) {i : Nat} (hi : i < 8) : c.byte.getLsbD i = c.flag i := by
  interval_cases i <;> simp [Conditions.byte, Conditions.flag, boolByte_getElem]

/-- A clear takes away the flags whose bits its set names, and keeps the others (R168). -/
theorem Conditions.flag_without (c : Conditions) (set : Byte) (i : Nat) :
    (c.without set).flag i = (c.flag i && !set.getLsbD i) := by
  unfold Conditions.flag
  split <;> rfl

/-- The byte of the flags left is the byte of the flags without the bits cleared (R168). -/
theorem Conditions.byte_without (c : Conditions) (set : Byte) : (c.without set).byte = c.byte &&& ~~~set := by
  refine BitVec.eq_of_getLsbD_eq fun i hi => ?_
  rw [Conditions.byte_getLsbD _ hi, Conditions.flag_without, BitVec.getLsbD_and, Conditions.byte_getLsbD c hi, BitVec.getLsbD_not,
    decide_eq_true hi, Bool.true_and]

/-! ## The arguments -/

/-- A threshold of 1 to 64 is read as itself, with whatever hold-off (R165). -/
theorem decodeNotice_inRange {threshold : Byte} (holdOff : Byte) (t1 : 1 ≤ threshold.toNat) (t64 : threshold.toNat ≤ 64) :
    decodeNotice threshold holdOff = some (threshold.toNat, holdOff.toNat) := by
  simp [decodeNotice, t1, t64]

/-- SET_NOTICE with a threshold out of range is not read (R165). -/
theorem decodeNotice_outOfRange {threshold : Byte} (holdOff : Byte) (h : threshold.toNat = 0 ∨ 64 < threshold.toNat) :
    decodeNotice threshold holdOff = none := by
  have notBoth : ¬(1 ≤ threshold.toNat && threshold.toNat ≤ 64) = true := by
    simp only [Bool.and_eq_true, decide_eq_true_eq]
    omega
  exact if_neg notBoth

/-- Bit 7 of a byte is set exactly when the byte is at least 128. -/
theorem byte_bit7_iff (b : Byte) : b.getLsbD 7 = true ↔ 128 ≤ b.toNat := by
  rw [show b.getLsbD 7 = b.msb from (BitVec.msb_eq_getLsbD_last b).symm, BitVec.msb_eq_decide, decide_eq_true_eq]

/-- A set of the seven conditions is read as it stands (R168). -/
theorem decodeConditionSet_inRange {flags : Byte} (h : flags.toNat < 128) : decodeConditionSet flags = some flags := by
  rw [decodeConditionSet, if_neg (by rw [byte_bit7_iff]; omega)]

/-- A set with bit 7 is not read (R168). -/
theorem decodeConditionSet_outOfRange {flags : Byte} (h : 128 ≤ flags.toNat) : decodeConditionSet flags = none := by
  rw [decodeConditionSet, if_pos ((byte_bit7_iff flags).2 h)]

/-! ## The commands -/

/-- SET_NOTICE is the host command of its decoded arguments. -/
theorem exec_setNotice (threshold holdOff : Byte) {s : State} (released : s.resetHeld = false) :
    exec (.setNotice threshold holdOff) s =
      .next (hostCommand 2 inService (decodeNotice threshold holdOff) (fun a => State.setNotice a.1 a.2) s) :=
  whilePowered_released _ released

/-- SET_ROUTES is the host command of its decoded routes. -/
theorem exec_setRoutes (a : RoutesArg) {s : State} (released : s.resetHeld = false) :
    exec (.setRoutes a) s = .next (hostCommand 7 inService (decodeRoutes a) State.setRoutes s) :=
  whilePowered_released _ released

/-- CLEAR_CONDITIONS is the host command of its decoded set. -/
theorem exec_clearConditions (flags : Byte) {s : State} (released : s.resetHeld = false) :
    exec (.clearConditions flags) s = .next (hostCommand 1 inService (decodeConditionSet flags) State.clearConditions s) :=
  whilePowered_released _ released

/-- The notice unit takes the threshold and the hold-off, and nothing else of it changes (R165). -/
theorem State.setNotice_taken (threshold holdOff : Nat) (s : State) :
    (s.taken 2).setNotice threshold holdOff = { s.answered 2 .ok [] with threshold := threshold, holdOff := holdOff } := rfl

/-- The condition unit takes the seven routes, and its flags stay (R167). -/
theorem State.setRoutes_taken (r : Routes) (s : State) : (s.taken 7).setRoutes r = { s.answered 7 .ok [] with routes := r } := rfl

/-- The named flags clear, and the answer is the flags left (R168). -/
theorem State.clearConditions_taken (flags : Byte) (s : State) :
    (s.taken 1).clearConditions flags =
      { s.answered 1 .ok [(s.conditions.without flags).byte] with conditions := s.conditions.without flags } := rfl

/-- Settles O35: the output lines by their parts, then each command by whether its arguments are in range. -/
theorem noticeAndConditionSettings : Obligations.NoticeAndConditionSettings := by
  unfold Obligations.NoticeAndConditionSettings
  refine ⟨fun s => ⟨s.routed_iff, ?noticeLine, Iff.rfl⟩, fun s served => ?commands⟩
  case noticeLine => rw [State.noticeN_iff, State.noticeDue_iff, or_assoc]
  case commands =>
    obtain ⟨released, opened, awake⟩ := State.servesHost_iff.1 served
    refine ⟨fun threshold holdOff t1 t64 => ?notice, fun threshold holdOff bad => ?noticeOutOfRange, fun a r read => ?routes,
      fun a unread => ?routesOutOfRange, fun flags inRange => ⟨s.conditions.without flags, s.conditions.byte_without flags, ?clear⟩,
      fun flags bad => ?clearOutOfRange⟩
    case notice =>
      rw [exec_setNotice _ _ released, decodeNotice_inRange holdOff t1 t64, hostCommand_run 2 _ _ opened awake,
        State.setNotice_taken]
    case noticeOutOfRange =>
      rw [exec_setNotice _ _ released, decodeNotice_outOfRange holdOff bad, hostCommand_badArgument 2 _ opened awake]
    case routes => rw [exec_setRoutes a released, read, hostCommand_run 7 _ _ opened awake, State.setRoutes_taken]
    case routesOutOfRange => rw [exec_setRoutes a released, unread, hostCommand_badArgument 7 _ opened awake]
    case clear =>
      rw [exec_clearConditions flags released, decodeConditionSet_inRange inRange, hostCommand_run 1 _ _ opened awake,
        State.clearConditions_taken]
    case clearOutOfRange =>
      rw [exec_clearConditions flags released, decodeConditionSet_outOfRange bad, hostCommand_badArgument 1 _ opened awake]

end Sys2Proof.Machine
end

section
/-! PROOFS. What every step keeps, one table over all operations: the invariants of Safety.lean group by group, what a slot may become
and what a line may become, and the operations on slots, holds, notices and lines that keep them. -/

namespace Sys2Proof.Machine

/-! ## What a step keeps -/

/-- From one state to the next every invariant of the block is kept, each by itself, and so is the queue of waiting commands. -/
structure Kept (s t : State) : Prop where
  keys : keysNeverOverlap s → keysNeverOverlap t
  values : valuesAgree s → valuesAgree t
  holds : holdsAgree s → holdsAgree t
  notices : noticesBounded s → noticesBounded t
  queues : queuesBounded s → queuesBounded t
  arbiter : arbiterInRange s → arbiterInRange t
  layout : layoutCovers s → layoutCovers t
  modes : modesAgree s → modesAgree t
  pending : t.pending = s.pending

theorem Kept.refl (s : State) : Kept s s := ⟨id, id, id, id, id, id, id, id, rfl⟩

theorem Kept.trans {s t u : State} (h : Kept s t) (g : Kept t u) : Kept s u where
  keys := g.keys ∘ h.keys
  values := g.values ∘ h.values
  holds := g.holds ∘ h.holds
  notices := g.notices ∘ h.notices
  queues := g.queues ∘ h.queues
  arbiter := g.arbiter ∘ h.arbiter
  layout := g.layout ∘ h.layout
  modes := g.modes ∘ h.modes
  pending := g.pending.trans h.pending

theorem Kept.ite {c : Prop} [Decidable c] {s t u : State} (h : c → Kept s t) (g : ¬c → Kept s u) : Kept s (if c then t else u) := by
  split
  · exact h ‹_›
  · exact g ‹_›

/-- The registers of the mode controller (R171). -/
def State.modeRegisters (s : State) : Mode × Mode × Option Mode × Option Transition × StartUp :=
  (s.mode, s.target, s.origin, s.transition, s.startup)

/-- The registers of the engine arbiter and the sweep (R48, R121). -/
def State.engineRegisters (s : State) : Arbiter × Option Sweep := (s.arb, s.sweep)

/-- The layout and the command slot (R14, R143). -/
def State.tableRegisters (s : State) : Layout × CommandSlot := (s.layout, s.slot)

theorem modesAgree_congr {s t : State} (e : t.modeRegisters = s.modeRegisters) (h : modesAgree s) : modesAgree t := by
  simp only [State.modeRegisters, Prod.mk.injEq] at e
  obtain ⟨mode, target, origin, transition, startup⟩ := e
  unfold modesAgree at *
  rwa [mode, target, origin, transition, startup]

theorem arbiterInRange_congr {s t : State} (e : t.engineRegisters = s.engineRegisters) (h : arbiterInRange s) : arbiterInRange t := by
  simp only [State.engineRegisters, Prod.mk.injEq] at e
  obtain ⟨arb, sweep⟩ := e
  unfold arbiterInRange at *
  rwa [arb, sweep]

theorem layoutCovers_congr {s t : State} (e : t.tableRegisters = s.tableRegisters) (h : layoutCovers s) : layoutCovers t := by
  simp only [State.tableRegisters, Prod.mk.injEq] at e
  obtain ⟨layout, slot⟩ := e
  unfold layoutCovers at *
  rwa [layout, slot]

theorem queuesBounded_congr {s t : State} (e : t.lines = s.lines) (h : queuesBounded s) : queuesBounded t := by
  intro l
  rw [show t.line l = s.line l from congrArg (fun v => Vector.get v l) e]
  exact h l

theorem noticesBounded_congr {s t : State} (e : t.notices = s.notices) (h : noticesBounded s) : noticesBounded t := by
  unfold noticesBounded at *
  rwa [e]

/-! ## What a slot may become -/

/-- A slot that is written with its hold untouched: it becomes EMPTY only where it was, or unheld; it is visible only as the record that
it was; and it is FRESH or NEW with a value as R7 has it, or as it was. -/
structure Slot.MayBecome (x y : Slot) : Prop where
  held : y.held = x.held
  empty : y.state = .empty → x.state = .empty ∨ y.held = false
  visible : y.visible = true → x.visible = true ∧ y.key = x.key
  fresh : y.state = .fresh → y.body.value.isSome = true ∨ (x.state = .fresh ∧ y.body.value = x.body.value)
  new : y.state = .new → y.body.value = none ∨ (x.state = .new ∧ y.body.value = x.body.value)

/-- A slot whose record, held mark, key and value stay as they are. -/
theorem Slot.MayBecome.of_same {x y : Slot} (held : y.held = x.held) (state : y.state = x.state) (key : y.key = x.key)
    (value : y.body.value = x.body.value) : x.MayBecome y where
  held := held
  empty := fun h => .inl (state ▸ h)
  visible := fun h => ⟨by simpa [Slot.visible, state] using h, key⟩
  fresh := fun h => .inr ⟨state ▸ h, value⟩
  new := fun h => .inr ⟨state ▸ h, value⟩

theorem Slot.MayBecome.refl (x : Slot) : x.MayBecome x := .of_same rfl rfl rfl rfl

/-- A slot whose state becomes STALE or FAULTED; a STALE one was visible before. -/
theorem Slot.MayBecome.of_dull {x y : Slot} (held : y.held = x.held) (key : y.key = x.key)
    (state : y.state = .faulted ∨ (y.state = .stale ∧ x.visible = true)) : x.MayBecome y where
  held := held
  empty := fun h => by simp [h] at state
  visible := fun h => by
    rcases state with faulted | ⟨-, seen⟩
    · simp [Slot.visible, faulted] at h
    · exact ⟨seen, key⟩
  fresh := fun h => by simp [h] at state
  new := fun h => by simp [h] at state

/-- A visible slot that becomes FRESH with a value. -/
theorem Slot.MayBecome.of_valued {x y : Slot} (held : y.held = x.held) (key : y.key = x.key) (fresh : y.state = .fresh)
    (value : y.body.value.isSome = true) (seen : x.visible = true) : x.MayBecome y where
  held := held
  empty := fun h => by simp [fresh] at h
  visible := fun _ => ⟨seen, key⟩
  fresh := fun _ => .inl value
  new := fun h => by simp [fresh] at h

/-- An EMPTY slot that stays EMPTY, with its held mark. -/
theorem Slot.MayBecome.of_empty {x y : Slot} (held : y.held = x.held) (was : x.state = .empty) (is : y.state = .empty) :
    x.MayBecome y where
  held := held
  empty := fun _ => .inl was
  visible := fun h => by simp [Slot.visible, is] at h
  fresh := fun h => by simp [is] at h
  new := fun h => by simp [is] at h

theorem keysNeverOverlap_of_slots {s t : State} (slots : ∀ i, (t.slotAt i).visible = true →
    (s.slotAt i).visible = true ∧ (t.slotAt i).key = (s.slotAt i).key) (h : keysNeverOverlap s) : keysNeverOverlap t := by
  intro i j k k' apart seenI seenJ keyI keyJ
  obtain ⟨wasI, sameI⟩ := slots i seenI
  obtain ⟨wasJ, sameJ⟩ := slots j seenJ
  exact h i j k k' apart wasI wasJ (sameI ▸ keyI) (sameJ ▸ keyJ)

theorem valuesAgree_of_slots {s t : State} (slots : ∀ i,
    ((t.slotAt i).state = .fresh → (t.slotAt i).body.value.isSome = true ∨
      ((s.slotAt i).state = .fresh ∧ (t.slotAt i).body.value = (s.slotAt i).body.value)) ∧
    ((t.slotAt i).state = .new → (t.slotAt i).body.value = none ∨
      ((s.slotAt i).state = .new ∧ (t.slotAt i).body.value = (s.slotAt i).body.value))) (h : valuesAgree s) : valuesAgree t := by
  intro i
  obtain ⟨fresh, new⟩ := slots i
  constructor
  · intro isFresh
    rcases fresh isFresh with value | ⟨was, same⟩
    · exact value
    · rw [same]
      exact (h i).1 was
  · intro isNew
    rcases new isNew with value | ⟨was, same⟩
    · exact value
    · rw [same]
      exact (h i).2 was

theorem holdsAgree_of_slots {s t : State} (slots : ∀ i, (s.slotAt i).MayBecome (t.slotAt i))
    (holds : t.holds.map HoldEntry.slot = s.holds.map HoldEntry.slot) (h : holdsAgree s) : holdsAgree t := by
  obtain ⟨room, apart, marks, unheld⟩ := h
  have entries : ∀ i, (∃ e ∈ t.holds, e.slot = i) ↔ ∃ e ∈ s.holds, e.slot = i := fun i => by
    rw [← List.mem_map, ← List.mem_map, holds]
  refine ⟨?_, holds ▸ apart, fun i => ?_, fun i isEmpty => ?_⟩
  · have := congrArg List.length holds
    simp only [List.length_map] at this
    omega
  · rw [(slots i).held, entries, marks]
  · rcases (slots i).empty isEmpty with was | free
    · rw [(slots i).held, unheld i was]
    · exact free

/-- Slots that become what they may, a hold list over the same slots, and notices within their bound; the rest as it was. -/
theorem Kept.of_slots {s t : State} (slots : ∀ i, (s.slotAt i).MayBecome (t.slotAt i))
    (holds : t.holds.map HoldEntry.slot = s.holds.map HoldEntry.slot) (notices : noticesBounded s → noticesBounded t)
    (lines : t.lines = s.lines) (engine : t.engineRegisters = s.engineRegisters) (table : t.tableRegisters = s.tableRegisters)
    (modes : t.modeRegisters = s.modeRegisters) (pending : t.pending = s.pending) : Kept s t where
  keys := keysNeverOverlap_of_slots fun i => (slots i).visible
  values := valuesAgree_of_slots fun i => ⟨(slots i).fresh, (slots i).new⟩
  holds := holdsAgree_of_slots slots holds
  notices := notices
  queues := queuesBounded_congr lines
  arbiter := arbiterInRange_congr engine
  layout := layoutCovers_congr table
  modes := modesAgree_congr modes
  pending := pending

/-- The records as they were, and each other part of the state within its invariant. -/
theorem Kept.of_registers {s t : State} (slots : t.slots = s.slots) (holds : t.holds = s.holds)
    (notices : noticesBounded s → noticesBounded t) (queues : queuesBounded s → queuesBounded t)
    (engine : arbiterInRange s → arbiterInRange t) (table : layoutCovers s → layoutCovers t)
    (modes : modesAgree s → modesAgree t) (pending : t.pending = s.pending) : Kept s t where
  keys := keysNeverOverlap_of_slots fun i h => by rw [State.slotAt_eq_of_slots slots] at *; exact ⟨h, rfl⟩
  values := valuesAgree_of_slots fun i => by rw [State.slotAt_eq_of_slots slots]; exact ⟨fun h => .inr ⟨h, rfl⟩, fun h => .inr ⟨h, rfl⟩⟩
  holds := holdsAgree_of_slots (fun i => by rw [State.slotAt_eq_of_slots slots]; exact .refl _) (by rw [holds])
  notices := notices
  queues := queues
  arbiter := engine
  layout := table
  modes := modes
  pending := pending

/-- A state that differs only in registers that no invariant reads. -/
theorem Kept.of_same {s t : State} (slots : t.slots = s.slots) (holds : t.holds = s.holds) (notices : t.notices = s.notices)
    (lines : t.lines = s.lines) (engine : t.engineRegisters = s.engineRegisters) (table : t.tableRegisters = s.tableRegisters)
    (modes : t.modeRegisters = s.modeRegisters) (pending : t.pending = s.pending) : Kept s t :=
  .of_registers slots holds (noticesBounded_congr notices) (queuesBounded_congr lines) (arbiterInRange_congr engine)
    (layoutCovers_congr table) (modesAgree_congr modes) pending

/-! ## Slots -/

/-- One slot written with what it may become. -/
theorem Kept.setSlot {s : State} {i : Nat} {x : Slot} (h : (s.slotAt i).MayBecome x) : Kept s (s.setSlot i x) :=
  .of_slots (fun j => by
    rw [State.slotAt_setSlot]
    split
    · rename_i c
      rw [c.1]
      exact h
    · exact .refl _) rfl id rfl rfl rfl rfl rfl

theorem Kept.modifySlot {s : State} {i : Nat} {f : Slot → Slot} (h : (s.slotAt i).MayBecome (f (s.slotAt i))) :
    Kept s (s.modifySlot i f) := Kept.setSlot h

/-- Overlap does not depend on the order of the keys (R13). -/
theorem Key.overlaps_comm (a b : Key) : a.overlaps b = b.overlaps a := by
  unfold Key.overlaps
  rw [BEq.comm (a := a.ident), BEq.comm (a := a.selLen), BEq.comm (a := a.selVal), BEq.comm (a := a.line) (b := b.line),
    Bool.or_comm (a.line == none)]

/-- An EMPTY slot becomes a record with a key that no visible record overlaps, its held mark clear, and a value as R7 has it. -/
theorem Kept.occupy {s : State} {i : Nat} {x : Slot} {k : Key} (was : (s.slotAt i).state = .empty) (free : s.keyFree k = true)
    (key : x.key = some k) (held : x.held = false) (occupied : x.state ≠ .empty)
    (fresh : x.state = .fresh → x.body.value.isSome = true) (new : x.state = .new → x.body.value = none) : Kept s (s.setSlot i x) where
  keys := by
    have freeAt : ∀ j k', (s.slotAt j).visible = true → (s.slotAt j).key = some k' → k.overlaps k' = false := by
      intro j k' seen keyJ
      by_cases inTable : j < 512
      · simp only [State.keyFree, List.all_eq_true, List.mem_range, Slot.matchesKey] at free
        have := free j inTable
        rw [seen, keyJ] at this
        simpa using this
      · have outside := s.slotAt_of_le (i := j) (by omega)
        simp [outside, Slot.reset, Slot.visible] at seen
    intro h a b ka kb apart seenA seenB keyA keyB
    rw [State.slotAt_setSlot] at seenA seenB keyA keyB
    split at seenA <;> split at seenB
    · omega
    · rename_i atA _
      rw [if_pos atA, key, Option.some.injEq] at keyA
      rw [if_neg ‹_›] at keyB
      exact keyA ▸ freeAt b kb seenB keyB
    · rename_i _ atB
      rw [if_pos atB, key, Option.some.injEq] at keyB
      rw [if_neg ‹_›] at keyA
      rw [← keyB, Key.overlaps_comm]
      exact freeAt a ka seenA keyA
    · rw [if_neg ‹_›] at keyA keyB
      exact h a b ka kb apart seenA seenB keyA keyB
  values := valuesAgree_of_slots fun j => by
    rw [State.slotAt_setSlot]
    split
    · exact ⟨fun h => .inl (fresh h), fun h => .inl (new h)⟩
    · exact ⟨fun h => .inr ⟨h, rfl⟩, fun h => .inr ⟨h, rfl⟩⟩
  holds := by
    rintro ⟨room, apart, marks, unheld⟩
    have same : ∀ j, ((s.setSlot i x).slotAt j).held = (s.slotAt j).held := by
      intro j
      rw [State.slotAt_setSlot]
      split
      · rename_i c
        rw [held, c.1, unheld i was]
      · rfl
    refine ⟨room, apart, fun j => by rw [same]; exact marks j, fun j isEmpty => ?_⟩
    rw [same]
    rw [State.slotAt_setSlot] at isEmpty
    split at isEmpty
    · exact absurd isEmpty occupied
    · exact unheld j isEmpty
  notices := noticesBounded_congr rfl
  queues := queuesBounded_congr rfl
  arbiter := arbiterInRange_congr rfl
  layout := layoutCovers_congr rfl
  modes := modesAgree_congr rfl
  pending := rfl

/-! ## Holds -/

/-- A change of held marks and of the hold list that agrees; the records and the rest as they were. -/
theorem Kept.of_marks {s t : State} (slots : ∀ j, (t.slotAt j).state = (s.slotAt j).state ∧ (t.slotAt j).key = (s.slotAt j).key ∧
    (t.slotAt j).body = (s.slotAt j).body) (holds : holdsAgree s → holdsAgree t) (notices : t.notices = s.notices)
    (lines : t.lines = s.lines) (engine : t.engineRegisters = s.engineRegisters) (table : t.tableRegisters = s.tableRegisters)
    (modes : t.modeRegisters = s.modeRegisters) (pending : t.pending = s.pending) : Kept s t where
  keys := keysNeverOverlap_of_slots fun j seen => by
    obtain ⟨state, key, -⟩ := slots j
    exact ⟨by simpa [Slot.visible, state] using seen, key⟩
  values := valuesAgree_of_slots fun j => by
    obtain ⟨state, -, body⟩ := slots j
    rw [state, body]
    exact ⟨fun h => .inr ⟨h, rfl⟩, fun h => .inr ⟨h, rfl⟩⟩
  holds := holds
  notices := noticesBounded_congr notices
  queues := queuesBounded_congr lines
  arbiter := arbiterInRange_congr engine
  layout := layoutCovers_congr table
  modes := modesAgree_congr modes
  pending := pending

/-- One slot removed from the hold list: every other one keeps its entry. -/
theorem holdsAgree_dropHold {i : Nat} {s : State} (h : holdsAgree s) : holdsAgree (s.dropHold i) := by
  obtain ⟨room, apart, marks, unheld⟩ := h
  have list : (s.dropHold i).holds = s.holds.filter fun e => e.slot != i := rfl
  have entries : ∀ j, (∃ e ∈ (s.dropHold i).holds, e.slot = j) ↔ j ≠ i ∧ (s.slotAt j).held = true := by
    intro j
    simp only [list, List.mem_filter, bne_iff_ne, marks]
    constructor
    · rintro ⟨e, ⟨mem, other⟩, rfl⟩
      exact ⟨other, e, mem, rfl⟩
    · rintro ⟨other, e, mem, rfl⟩
      exact ⟨e, ⟨mem, other⟩, rfl⟩
  refine ⟨(List.length_filter_le _ _).trans room, apart.sublist (List.filter_sublist.map _), fun j => ?_, fun j isEmpty => ?_⟩
  · rw [entries, State.slotAt_dropHold]
    by_cases c : j = i
    · subst c
      by_cases inTable : j < 512
      · simp [inTable]
      · have := s.slotAt_of_le (i := j) (by omega)
        simp [inTable, this, Slot.reset]
    · simp [c]
  · rw [State.slotAt_dropHold] at *
    split
    · rfl
    · rename_i c
      rw [if_neg c] at isEmpty
      exact unheld j isEmpty

/-- The end of a hold (R17, R55, R156, R157). -/
theorem Kept.dropHold (i : Nat) (s : State) : Kept s (s.dropHold i) :=
  .of_marks (fun j => by
    rw [State.slotAt_dropHold]
    split
    · rename_i c
      rw [c.1]
      exact ⟨rfl, rfl, rfl⟩
    · exact ⟨rfl, rfl, rfl⟩) holdsAgree_dropHold rfl rfl rfl rfl rfl rfl

/-- The state in which a record's hold has begun (R155). -/
def State.withHold (e : HoldEntry) (s : State) : State :=
  { s with holds := s.holds ++ [e] }.modifySlot e.slot fun x => { x with held := true, expiredHold := false }

theorem State.slotAt_withHold {s : State} {e : HoldEntry} (inTable : e.slot < 512) (j : Nat) : (s.withHold e).slotAt j =
    if j = e.slot then { s.slotAt e.slot with held := true, expiredHold := false } else s.slotAt j := by
  unfold State.withHold
  rw [State.slotAt_modifySlot]
  simp only [inTable, and_true]
  rfl

/-- A hold list with room takes the entry of an occupied record that has none. -/
theorem holdsAgree_withHold {s : State} {e : HoldEntry} (inTable : e.slot < 512) (room : s.holds.length < 16)
    (free : (s.slotAt e.slot).held = false) (occupied : (s.slotAt e.slot).state ≠ .empty) (h : holdsAgree s) :
    holdsAgree (s.withHold e) := by
  obtain ⟨-, apart, marks, unheld⟩ := h
  have list : (s.withHold e).holds = s.holds ++ [e] := rfl
  have none : ∀ d ∈ s.holds, d.slot ≠ e.slot := fun d mem same => by
    have := (marks e.slot).2 ⟨d, mem, same⟩
    simp [free] at this
  refine ⟨by simp [list]; omega, ?_, fun j => ?_, fun j isEmpty => ?_⟩
  · simp only [list, List.map_append, List.map_cons, List.map_nil]
    refine List.Nodup.append apart (by simp) ?_
    simpa [List.disjoint_singleton] using fun d mem same => none d mem same
  · rw [State.slotAt_withHold inTable]
    simp only [list, List.mem_append, List.mem_singleton, or_and_right, exists_or, exists_eq_left, ← marks j]
    by_cases c : j = e.slot
    · simp [c]
    · simp [c, Ne.symm c]
  · rw [State.slotAt_withHold inTable] at *
    by_cases c : j = e.slot
    · rw [if_pos c] at isEmpty
      exact absurd isEmpty occupied
    · rw [if_neg c] at *
      exact unheld j isEmpty

/-- The begin of a hold of an occupied record that has none (R155). -/
theorem Kept.withHold {s : State} {e : HoldEntry} (inTable : e.slot < 512) (room : s.holds.length < 16)
    (free : (s.slotAt e.slot).held = false) (occupied : (s.slotAt e.slot).state ≠ .empty) : Kept s (s.withHold e) :=
  .of_marks (fun j => by
    rw [State.slotAt_withHold inTable]
    split
    · rename_i c
      rw [c]
      exact ⟨rfl, rfl, rfl⟩
    · exact ⟨rfl, rfl, rfl⟩) (holdsAgree_withHold inTable room free occupied) rfl rfl rfl rfl rfl rfl

/-- An update kept in the hold entry of a record (R93). -/
theorem Kept.keepPending (i : Nat) (u : PendingUpdate) (s : State) : Kept s (s.keepPending i u) :=
  .of_slots (fun _ => .refl _) (by
    simp only [State.keepPending, List.map_map]
    refine List.map_congr_left fun e _ => ?_
    simp only [Function.comp]
    split <;> rfl) id rfl rfl rfl rfl rfl

/-! ## Notices, conditions, capture -/

/-- A posting (R161). -/
theorem Kept.post (h : Handle) (k : NoticeKind) (s : State) : Kept s (s.post h k) :=
  .of_slots (fun j => by rw [State.slotAt_post]; exact .of_same rfl rfl rfl rfl) (by simp) (State.post_noticesBounded h k) (by simp)
    (by simp [State.engineRegisters]) (by simp [State.tableRegisters]) (by simp [State.modeRegisters]) (by simp)

theorem Kept.postIf (c : Bool) (h : Handle) (k : NoticeKind) (s : State) : Kept s (s.postIf c h k) := by
  cases c with
  | false => exact .refl _
  | true => exact .post h k s

/-- The notices rewritten, each with its handle. -/
theorem noticesBounded_map {s t : State} {f : Notice → Notice} (hf : ∀ e, (f e).handle = e.handle) (e : t.notices = s.notices.map f)
    (h : noticesBounded s) : noticesBounded t := by
  refine ⟨by rw [e, List.length_map]; exact h.1, ?_⟩
  rw [e, List.map_map, show Notice.handle ∘ f = Notice.handle from funext hf]
  exact h.2

theorem Kept.raise (c : Condition) (s : State) : Kept s (s.raise c) := .of_same rfl rfl rfl rfl rfl rfl rfl rfl

theorem Kept.offerCapture (corrected : Bool) (q : FaultSource) (i : Nat) (s : State) : Kept s (s.offerCapture corrected q i) :=
  .of_same rfl rfl rfl rfl rfl rfl rfl rfl

theorem Kept.complete (code : ResultCode) (body : List Byte) (s : State) : Kept s (s.complete code body) :=
  .of_registers rfl rfl id id id (fun h => ⟨h.1, fun _ e => by cases e⟩) id rfl

/-! ## Lines -/

/-- A line within its bounds (R68, R129, R75). -/
def LineState.Bounded (ln : LineState) : Prop :=
  ln.rxQueue.length ≤ 8 ∧ ln.data.length ≤ 8 ∧ ∀ f, ln.flight = some f → f.collisions ≤ 3

/-- A line whose queues have not grown, and whose frame in flight is the one before, or none. -/
structure LineState.Within (a b : LineState) : Prop where
  rxQueue : b.rxQueue.length ≤ a.rxQueue.length
  data : b.data.length ≤ a.data.length
  flight : b.flight = a.flight ∨ b.flight = none

theorem LineState.Within.refl (a : LineState) : a.Within a := ⟨le_rfl, le_rfl, .inl rfl⟩

theorem LineState.Within.trans {a b c : LineState} (h : a.Within b) (g : b.Within c) : a.Within c where
  rxQueue := g.rxQueue.trans h.rxQueue
  data := g.data.trans h.data
  flight := by
    rcases g.flight with e | e
    · rw [e]
      exact h.flight
    · exact .inr e

theorem LineState.Within.bounded {a b : LineState} (w : a.Within b) (h : a.Bounded) : b.Bounded := by
  obtain ⟨received, queued, flight⟩ := h
  refine ⟨w.rxQueue.trans received, w.data.trans queued, fun f e => ?_⟩
  rcases w.flight with same | gone
  · exact flight f (same ▸ e)
  · rw [gone] at e
    cases e

theorem queuesBounded_iff {s : State} : queuesBounded s ↔ ∀ l, (s.line l).Bounded := Iff.rfl

/-- The lines written, each within its bounds; the rest as it was. -/
theorem Kept.of_lines {s t : State} (lines : ∀ l, (s.line l).Bounded → (t.line l).Bounded) (slots : t.slots = s.slots)
    (holds : t.holds = s.holds) (notices : t.notices = s.notices) (engine : t.engineRegisters = s.engineRegisters)
    (table : t.tableRegisters = s.tableRegisters) (modes : t.modeRegisters = s.modeRegisters) (pending : t.pending = s.pending) :
    Kept s t :=
  .of_registers slots holds (noticesBounded_congr notices) (fun h l => lines l (h l)) (arbiterInRange_congr engine)
    (layoutCovers_congr table) (modesAgree_congr modes) pending

theorem Kept.setLine {s : State} {l : LineId} {x : LineState} (h : (s.line l).Bounded → x.Bounded) : Kept s (s.setLine l x) :=
  .of_lines (fun k => by
    rw [State.line_setLine]
    split
    · rename_i c
      rw [c]
      exact h
    · exact id) rfl rfl rfl rfl rfl rfl rfl

theorem Kept.modifyLine {s : State} {l : LineId} {f : LineState → LineState} (h : (s.line l).Bounded → (f (s.line l)).Bounded) :
    Kept s (s.modifyLine l f) := Kept.setLine h

theorem Kept.mapLines {s : State} {f : LineId → LineState → LineState} (h : ∀ l, (s.line l).Bounded → (f l (s.line l)).Bounded) :
    Kept s (s.mapLines f) :=
  .of_lines (fun k => by rw [State.line_mapLines]; exact h k) rfl rfl rfl rfl rfl rfl rfl

theorem LineState.within_count (c : Counter) (ln : LineState) : ln.Within (ln.count c) := ⟨le_rfl, le_rfl, .inl rfl⟩

theorem Kept.count (l : LineId) (c : Counter) (s : State) : Kept s (s.count l c) :=
  .modifyLine (LineState.within_count c _).bounded

theorem LineState.within_countTimes (c : Counter) (n : Nat) (ln : LineState) : ln.Within (LineState.countTimes c n ln) := by
  induction n generalizing ln with
  | zero => exact .refl _
  | succ n ih => exact (ln.within_count c).trans (ih _)

theorem LineState.within_dropPublish (h : Handle) (ln : LineState) : ln.Within (ln.dropPublish h) :=
  ⟨le_rfl, List.length_filter_le _ _, .inl rfl⟩

theorem Kept.dropPublish (h : Handle) (s : State) : Kept s (s.dropPublish h) :=
  .mapLines fun _ => (LineState.within_dropPublish h _).bounded

/-- An offered snapshot joins only a data part with room (R131, R132). -/
theorem LineState.bounded_offerPublish (h : Handle) (p : Fin 4) (v : List Byte) {ln : LineState} (b : ln.Bounded) :
    (ln.offerPublish h p v).Bounded := by
  obtain ⟨received, queued, flight⟩ := b
  unfold LineState.offerPublish
  split
  · exact ⟨received, by simpa using queued, flight⟩
  · split
    · exact ⟨received, by simp; omega, flight⟩
    · exact ⟨received, queued, flight⟩

theorem Kept.publish (i : Nat) (s : State) : Kept s (s.publish i) :=
  .of_lines (fun l b => by
    rw [State.publish, State.line_mapLines]
    split
    · split
      · exact LineState.bounded_offerPublish _ _ _ b
      · exact (LineState.within_count _ _).bounded b
    · exact b) rfl rfl rfl rfl rfl rfl rfl

/-- An offered reply joins only a data part with room (R97). -/
theorem LineState.bounded_offerReply (stale : Bool) (i : Ident) (v : List Byte) {ln : LineState} (b : ln.Bounded) :
    (ln.offerReply stale i v).Bounded := by
  obtain ⟨received, queued, flight⟩ := b
  unfold LineState.offerReply
  split
  · exact ⟨received, by simp; omega, flight⟩
  · exact ⟨received, queued, flight⟩

theorem LineState.within_flowOnFall (acts : Bool) (ln : LineState) : ln.Within (ln.flowOnFall acts) := by
  rw [LineState.flowOnFall_eq]
  exact ⟨le_rfl, le_rfl, .inl rfl⟩

theorem LineState.within_flowOnJoin (acts : Bool) (ln : LineState) : ln.Within (ln.flowOnJoin acts) := by
  rw [LineState.flowOnJoin_eq]
  exact ⟨le_rfl, le_rfl, .inl rfl⟩

theorem LineState.within_flowAgain (acts : Bool) (ln : LineState) : ln.Within (ln.flowAgain acts) := by
  unfold LineState.flowAgain
  split
  · exact ln.within_flowOnJoin acts
  · exact ln.within_flowOnFall acts

theorem LineState.within_flush (acts : Bool) (ln : LineState) : ln.Within (ln.flush acts) := by
  rw [LineState.flush_eq]
  exact ⟨Nat.zero_le _, Nat.zero_le _, .inl rfl⟩

theorem LineState.within_enableEvent (acts : Bool) (ln : LineState) : ln.Within (ln.enableEvent acts) := by
  rw [LineState.enableEvent_eq]
  unfold LineState.afterEnable
  split
  · exact ⟨Nat.zero_le _, Nat.zero_le _, .inl rfl⟩
  · exact ⟨le_rfl, le_rfl, .inl rfl⟩

theorem LineState.within_disableEvent (acts : Bool) (ln : LineState) : ln.Within (ln.disableEvent acts) := by
  have stopped : ln.Within { ln with rx := .stopped, pauseSet := [] } := ⟨le_rfl, le_rfl, .inl rfl⟩
  unfold LineState.disableEvent
  dsimp only
  split
  · exact stopped.trans (LineState.within_flush acts _)
  · exact stopped

theorem Kept.enableLines (s : State) : Kept s s.enableLines :=
  .mapLines fun l b => by
    split
    · exact (LineState.within_enableEvent _ _).bounded b
    · exact b

theorem LineState.within_holdAfterFlight (ln : LineState) : ln.Within ln.holdAfterFlight := by
  unfold LineState.holdAfterFlight LineState.startBreak
  split
  · exact ⟨le_rfl, le_rfl, .inl rfl⟩
  · exact .refl _

theorem LineState.within_endBreak (active : Bool) (ln : LineState) : ln.Within (ln.endBreak active) := by
  unfold LineState.endBreak
  split
  · exact ⟨le_rfl, le_rfl, .inl rfl⟩
  · exact .refl _

/-! ## Retirement, body reads, updates -/

/-- The common effects of retirement (R17). -/
theorem Kept.retire (i : Nat) (s : State) : Kept s (s.retire i) := by
  refine ((Kept.dropHold i s).trans (.dropPublish _ _)).trans (.modifySlot ?_)
  have unheld : (((s.dropHold i).dropPublish (s.handleAt i)).slotAt i).held = false := by
    rw [show ((s.dropHold i).dropPublish (s.handleAt i)).slotAt i = (s.dropHold i).slotAt i from rfl]
    by_cases inTable : i < 512
    · rw [State.slotAt_dropHold, if_pos ⟨rfl, inTable⟩]
    · rw [(s.dropHold i).slotAt_of_le (i := i) (by omega)]
      rfl
  exact { held := unheld.symm, empty := fun _ => .inr rfl, visible := fun h => by simp [Slot.emptied, Slot.visible] at h,
          fresh := fun h => by simp [Slot.emptied] at h, new := fun h => by simp [Slot.emptied] at h }

theorem Kept.retireWith (k : NoticeKind) (i : Nat) (s : State) : Kept s (s.retireWith k i) :=
  (Kept.retire i s).trans (.post _ _ _)

/-- What each step of a fold keeps, the fold keeps. -/
theorem Kept.foldl {f : State → Nat → State} (h : ∀ t i, Kept t (f t i)) (is : List Nat) (s : State) : Kept s (is.foldl f s) := by
  induction is generalizing s with
  | nil => exact .refl _
  | cons i is ih => exact (h s i).trans (ih _)

theorem Kept.retireAll (pick : Slot → Bool) (k : NoticeKind) (s : State) : Kept s (s.retireAll pick k) :=
  .foldl (fun t i => .ite (fun _ => .retireWith k i t) fun _ => .refl _) _ s

theorem Kept.makeFaulted (q : FaultSource) (i : Nat) (s : State) : Kept s (s.makeFaulted q i) :=
  have faulted : Kept s (s.modifySlot i fun x => { x with state := .faulted }) := .modifySlot (.of_dull rfl rfl (.inl rfl))
  ((((faulted.trans (.dropHold _ _)).trans (.dropPublish _ _)).trans (.post _ _ _)).trans (.raise _ _)).trans (.offerCapture _ _ _ _)

/-- A body read (R53). -/
theorem Kept.checkBody (q : FaultSource) (i : Nat) (s : State) : Kept s (s.checkBody q i) := by
  unfold State.checkBody
  split
  · exact .refl _
  · exact ((Kept.modifySlot (.of_same rfl rfl rfl rfl)).trans (.raise _ _)).trans (.offerCapture _ _ _ _)
  · split
    · rename_i was
      exact ((Kept.modifySlot (.of_empty rfl was was)).trans (.raise _ _)).trans (.offerCapture _ _ _ _)
    · exact .makeFaulted _ _ _

/-- A body read that does not lose its record leaves its state as it was. -/
theorem State.checkBody_visible {q : FaultSource} {i : Nat} {s : State} (found : s.bodyLost i = false) (j : Nat) :
    ((s.checkBody q i).slotAt j).visible = (s.slotAt j).visible := by
  unfold State.checkBody
  split
  · rfl
  · show ((s.modifySlot i fun x => { x with integrity := .clean }).slotAt j).visible = _
    rw [State.slotAt_modifySlot]
    split
    · rename_i c
      rw [c.1]
      rfl
    · rfl
  · rename_i lost
    simp [State.bodyLost, lost] at found

/-- An update applied to a visible record (R94). -/
theorem Kept.applyUpdate {s : State} {i : Nat} (v : List Byte) (a : Byte) (m : Tick) (seen : (s.slotAt i).visible = true) :
    Kept s (s.applyUpdate i v a m) :=
  have written : Kept s (s.setSlot i ((s.slotAt i).updated v a m)) := .setSlot (.of_valued rfl rfl rfl rfl seen)
  (written.trans (.postIf _ _ _ _)).trans (.postIf _ _ _ _)

theorem Kept.applyPending {s : State} {i : Nat} (u : Option PendingUpdate) (seen : (s.slotAt i).visible = true) :
    Kept s (s.applyPending i u) := by
  cases u with
  | none => exact .refl _
  | some u => exact .applyUpdate _ _ _ seen

end Sys2Proof.Machine
end

section
/-! PROOFS. What every step keeps, command by command: each command of the block answers a next state, and every invariant of
Safety.lean is kept from the one to the other. -/

namespace Sys2Proof.Machine

/-! ## Events and host commands -/

/-- A command answers a next state and keeps every invariant. -/
def KeepsAll (f : State → Answer) : Prop := ∀ s, ∃ t, f s = .next t ∧ Kept s t

theorem KeepsAll.whilePowered {f : State → State} (h : ∀ s, Kept s (f s)) : KeepsAll (whilePowered f) := fun s =>
  ⟨_, rfl, .ite (fun _ => .refl s) fun _ => h s⟩

/-- A COMMAND keeps what its block keeps (R140, R143, R144). -/
theorem Kept.hostCommand {α : Type} (n : Nat) (allowed : Mode → Bool) {args : Option α} {run : α → State → State}
    (h : ∀ a, args = some a → ∀ t, Kept t (run a t)) (s : State) : Kept s (hostCommand n allowed args run s) := by
  have taken : Kept s (s.taken n) := .of_same rfl rfl rfl rfl rfl rfl rfl rfl
  rw [hostCommand_cases]
  split
  · exact .of_same rfl rfl rfl rfl rfl rfl rfl rfl
  · split
    · cases args with
      | none => exact taken.trans (.complete _ _ _)
      | some a => exact taken.trans (h a rfl _)
    · exact taken.trans (.complete _ _ _)

theorem KeepsAll.hostCommand {α : Type} (n : Nat) (allowed : Mode → Bool) {args : Option α} {run : α → State → State}
    (h : ∀ a, args = some a → ∀ t, Kept t (run a t)) : KeepsAll (Machine.whilePowered (Machine.hostCommand n allowed args run)) :=
  .whilePowered (.hostCommand n allowed h)

/-! ## The reset state and resets -/

theorem State.reset_slotAt (i : Nat) : State.reset.slotAt i = Slot.reset := by
  unfold State.slotAt State.reset
  by_cases inTable : i < 512
  · rw [Vector.getElem?_eq_getElem inTable, Vector.getElem_replicate]
    rfl
  · rw [Vector.getElem?_eq_none (by omega)]
    rfl

theorem State.reset_line (l : LineId) : State.reset.line l = LineState.withSettings .reset := by
  show (Vector.replicate 4 (LineState.withSettings .reset)).get l = _
  simp [Vector.get]

theorem keysNeverOverlap_of_reset {s : State} (slots : ∀ i, s.slotAt i = Slot.reset) : keysNeverOverlap s := by
  intro i j k k' _ seen
  simp [slots, Slot.reset, Slot.visible] at seen

theorem valuesAgree_of_reset {s : State} (slots : ∀ i, s.slotAt i = Slot.reset) : valuesAgree s := by
  intro i
  simp [slots, Slot.reset]

theorem holdsAgree_of_reset {s : State} (slots : ∀ i, s.slotAt i = Slot.reset) (holds : s.holds = []) : holdsAgree s := by
  simp [holdsAgree, holds, slots, Slot.reset]

theorem LineState.bounded_withSettings (t : LineSettings) : (LineState.withSettings t).Bounded :=
  ⟨Nat.zero_le _, Nat.zero_le _, fun f h => by cases h⟩

theorem queuesBounded_reset : queuesBounded State.reset := fun l => by
  rw [State.reset_line]
  exact LineState.bounded_withSettings _

theorem arbiterInRange_reset : arbiterInRange State.reset := by
  simp [arbiterInRange, State.reset, Arbiter.reset]

theorem layoutCovers_reset : layoutCovers State.reset := ⟨rfl, fun _ h => by cases h⟩

theorem modesAgree_reset : modesAgree State.reset := by
  simp [modesAgree, State.reset]

theorem noticesBounded_of_empty {s : State} (h : s.notices = []) : noticesBounded s := by
  simp [noticesBounded, h]

/-- A state whose blocks have their reset values keeps every invariant, from whatever state. -/
theorem Kept.of_reset {s t : State} (slots : t.slots = State.reset.slots) (holds : t.holds = []) (notices : t.notices = [])
    (lines : t.lines = State.reset.lines) (engine : t.engineRegisters = State.reset.engineRegisters)
    (table : t.tableRegisters = State.reset.tableRegisters) (modes : t.modeRegisters = State.reset.modeRegisters)
    (pending : t.pending = s.pending) : Kept s t :=
  have clear : ∀ i, t.slotAt i = Slot.reset := fun i => (State.slotAt_eq_of_slots slots i).trans (State.reset_slotAt i)
  { keys := fun _ => keysNeverOverlap_of_reset clear
    values := fun _ => valuesAgree_of_reset clear
    holds := fun _ => holdsAgree_of_reset clear holds
    notices := fun _ => noticesBounded_of_empty notices
    queues := fun _ => queuesBounded_congr lines queuesBounded_reset
    arbiter := fun _ => arbiterInRange_congr engine arbiterInRange_reset
    layout := fun _ => layoutCovers_congr table layoutCovers_reset
    modes := fun _ => modesAgree_congr modes modesAgree_reset
    pending := pending }

theorem keepsAll_powerOnReset : KeepsAll execPowerOnReset := fun _ => ⟨_, rfl, .of_reset rfl rfl rfl rfl rfl rfl rfl rfl⟩

theorem keepsAll_pinReset : KeepsAll execPinReset := fun _ => ⟨_, rfl, .of_reset rfl rfl rfl rfl rfl rfl rfl rfl⟩

theorem keepsAll_resetNRelease : KeepsAll execResetNRelease := fun s =>
  ⟨_, rfl, .ite (fun _ => .of_reset rfl rfl rfl rfl rfl rfl rfl rfl) fun _ => .refl s⟩

theorem Kept.startupDone {s : State} (starting : s.mode = .starting) : Kept s s.startupDone :=
  have clear : ∀ i, s.startupDone.slotAt i = Slot.reset := fun i => State.reset_slotAt i
  { keys := fun _ => keysNeverOverlap_of_reset clear
    values := fun _ => valuesAgree_of_reset clear
    holds := fun _ => holdsAgree_of_reset clear rfl
    notices := noticesBounded_congr rfl
    queues := queuesBounded_congr rfl
    arbiter := arbiterInRange_congr rfl
    layout := fun h => ⟨rfl, h.2⟩
    modes := fun h => by
      simp only [modesAgree, starting] at h
      simp [modesAgree, State.startupDone, State.initTable]
      tauto
    pending := rfl }

theorem keepsAll_startupComplete : KeepsAll execStartupComplete :=
  .whilePowered fun s => .ite (fun h => .startupDone h) fun _ => .refl s

/-- A slot after a soft reset: never held, and visible only as the record that it was, with its value (R23). -/
theorem Slot.softReset_facts (x : Slot) : x.softReset.held = false ∧
    (x.softReset.visible = true → x.visible = true ∧ x.softReset.key = x.key) ∧
    (x.softReset.state = .empty ∨ (x.softReset.state = x.state ∧ x.softReset.body.value = x.body.value)) := by
  unfold Slot.softReset
  dsimp only
  by_cases learned : (x.occupied && x.kind == some .learned) = true
  · rw [if_pos learned]
    simp [Slot.emptied, Slot.visible]
  · rw [if_neg learned]
    by_cases seen : x.visible = true
    · rw [if_pos seen]
      exact ⟨rfl, fun _ => ⟨seen, rfl⟩, .inr ⟨rfl, rfl⟩⟩
    · rw [if_neg seen]
      exact ⟨rfl, fun h => ⟨h, rfl⟩, .inr ⟨rfl, rfl⟩⟩

theorem State.slotAt_softResetNow (s : State) (i : Nat) : s.softResetNow.slotAt i = (s.slotAt i).softReset ∨ s.softResetNow.slotAt i = Slot.reset := by
  have same : s.softResetNow.slotAt i = ((s.mapLines fun _ ln => ln.softReset).mapSlots Slot.softReset).slotAt i := rfl
  by_cases inTable : i < 512
  · exact .inl (by rw [same, State.slotAt_mapSlots]; simp [inTable]; rfl)
  · exact .inr (State.slotAt_of_le _ (by omega))

theorem Kept.softResetNow (s : State) : Kept s s.softResetNow where
  keys := keysNeverOverlap_of_slots fun i h => by
    rcases s.slotAt_softResetNow i with e | e <;> rw [e] at h ⊢
    · exact (s.slotAt i).softReset_facts.2.1 h
    · exact absurd h (by decide)
  values := valuesAgree_of_slots fun i => by
    rcases s.slotAt_softResetNow i with e | e <;> rw [e]
    · obtain ⟨-, -, gone | ⟨state, value⟩⟩ := (s.slotAt i).softReset_facts
      · simp [gone]
      · rw [state, value]
        exact ⟨fun h => .inr ⟨h, rfl⟩, fun h => .inr ⟨h, rfl⟩⟩
    · simp [Slot.reset]
  holds := fun _ => by
    have unheld : ∀ i, (s.softResetNow.slotAt i).held = false := fun i => by
      rcases s.slotAt_softResetNow i with e | e <;> rw [e]
      · exact (s.slotAt i).softReset_facts.1
      · rfl
    have none : s.softResetNow.holds = [] := rfl
    simp [holdsAgree, unheld, none]
  notices := fun _ => noticesBounded_of_empty rfl
  queues := fun _ l => by
    have line : s.softResetNow.line l = (s.line l).softReset := State.line_mapLines s (fun _ ln => ln.softReset) l
    rw [line]
    exact LineState.bounded_withSettings _
  arbiter := fun ⟨f1, f15, w1, w255, _⟩ => ⟨f1, f15, w1, w255, Nat.zero_le _, Nat.zero_le _, fun _ => rfl⟩
  layout := fun h => ⟨h.1, fun _ e => by cases e⟩
  modes := fun _ => by simp [modesAgree, State.softResetNow]
  pending := rfl

theorem Kept.softResetStep (s : State) : Kept s s.softResetStep := .ite (fun _ => .softResetNow s) fun _ => .refl s

/-! ## The port, the class store and the units -/

theorem Kept.statusTransaction (n : Nat) (s : State) : Kept s (s.statusTransaction n) :=
  .ite (fun _ => .refl s) fun _ => .ite (fun _ => .of_same rfl rfl rfl rfl rfl rfl rfl rfl) fun _ =>
    .of_same rfl rfl rfl rfl rfl rfl rfl rfl

theorem Kept.resultTransaction (n : Nat) (s : State) : Kept s (s.resultTransaction n) := by
  refine .ite (fun _ => .refl s) fun _ => .ite (fun _ => ?_) fun _ => .of_same rfl rfl rfl rfl rfl rfl rfl rfl
  refine .of_registers rfl rfl id id id (fun h => ⟨h.1, fun y e => h.2 y ?_⟩) id rfl
  cases slot : s.slot with
  | done code body => simp [CommandSlot.afterResult, slot] at e
  | idle => simp [CommandSlot.afterResult, slot] at e
  | pending c => simpa [CommandSlot.afterResult, slot] using e

theorem Kept.discardTransaction (bytes : List Byte) (n : Nat) (s : State) : Kept s (s.discardTransaction bytes n) := by
  refine .ite (fun _ => .refl s) fun _ => .ite (fun _ => ?_) fun _ => .refl s
  have out : Kept s (s.discardOut bytes) := by
    unfold State.discardOut
    repeat' split
    all_goals exact .of_same rfl rfl rfl rfl rfl rfl rfl rfl
  exact out.trans (.of_same rfl rfl rfl rfl rfl rfl rfl rfl)

theorem Kept.commitClasses (s : State) : Kept s s.commitClasses := by
  refine .ite (fun _ => ?_) fun _ => ?_
  · have installed : Kept s s.install := .of_same rfl rfl rfl rfl rfl rfl rfl rfl
    exact installed.trans (.complete _ _ _)
  · have marked : Kept s { s with commitRequested := true } := .of_same rfl rfl rfl rfl rfl rfl rfl rfl
    exact marked.trans (.complete _ _ _)

/-- Any registers that no invariant reads are set, and the command completes. -/
theorem Kept.settings {s t : State} {code : ResultCode} {body : List Byte} (slots : t.slots = s.slots) (holds : t.holds = s.holds)
    (notices : t.notices = s.notices) (lines : t.lines = s.lines) (engine : t.engineRegisters = s.engineRegisters)
    (table : t.tableRegisters = s.tableRegisters) (modes : t.modeRegisters = s.modeRegisters) (pending : t.pending = s.pending) :
    Kept s (t.complete code body) :=
  (Kept.of_same slots holds notices lines engine table modes pending).trans (.complete _ _ _)

theorem Kept.setShares {f w : Byte} {a : Nat × Nat} (h : decodeShares f w = some a) (s : State) :
    Kept s (s.setShares a.1 a.2) := by
  unfold decodeShares at h
  split at h
  · rename_i inRange
    simp only [Bool.and_eq_true, decide_eq_true_eq] at inRange
    cases h
    have set : Kept s { s with arb := { s.arb with fieldShare := f.toNat, sweepShare := w.toNat, run := 0, sweepWait := 0 } } :=
      .of_registers rfl rfl id id (fun _ => by
        obtain ⟨⟨f1, f15⟩, w1⟩ := inRange
        exact ⟨f1, f15, w1, Nat.le_of_lt_succ w.isLt, Nat.zero_le _, Nat.zero_le _, fun _ => rfl⟩) id id rfl
    exact set.trans (.complete _ _ _)
  · cases h

theorem Kept.popNotice (s : State) : Kept s s.popNotice := by
  unfold State.popNotice
  split
  · exact .complete _ _ _
  · rename_i head rest queue
    have popped : Kept s { s with notices := rest } := by
      refine .of_registers rfl rfl (fun h => ?_) id id id id rfl
      unfold noticesBounded at *
      rw [queue] at h
      simp only [List.length_cons, List.map_cons, List.nodup_cons] at h
      exact ⟨by dsimp only; omega, h.2.2⟩
    exact popped.trans (.complete _ _ _)

theorem Kept.scanMissed (i : Nat) (s : State) : Kept s (s.scanMissed i) := by
  unfold State.scanMissed
  split
  · exact .complete _ _ _
  · exact (Kept.modifySlot (.of_same rfl rfl rfl rfl)).trans (.complete _ _ _)

theorem Kept.holdOffOver (s : State) : Kept s s.holdOffOver := by
  unfold State.holdOffOver
  split
  · exact .refl _
  · exact .of_registers rfl rfl (noticesBounded_map (f := Notice.wait _) (fun _ => rfl) rfl) id id id id rfl

/-! ## Lines at the command of the host -/

theorem LineState.within_reenable (acts enabled : Bool) (ln : LineState) : ln.Within (ln.reenable acts enabled) := by
  have changed : ln.Within { ln with settings := { ln.settings with enabled := enabled } } := ⟨le_rfl, le_rfl, .inl rfl⟩
  unfold LineState.reenable
  dsimp only
  split
  · exact changed.trans (LineState.within_enableEvent _ _)
  · split
    · exact changed.trans (LineState.within_disableEvent _ _)
    · exact changed

theorem Kept.setLineSettings (l : LineId) (t : LineSettings) (s : State) : Kept s (s.setLineSettings l t) := by
  refine .ite (fun _ => ?_) fun _ => .ite (fun _ => ?_) fun _ => .complete _ _ _
  · exact (Kept.modifyLine id).trans (.complete _ _ _)
  · exact (Kept.modifyLine (LineState.within_reenable _ _ _).bounded).trans (.complete _ _ _)

theorem Kept.readCounters (l : LineId) (clear : Bool) (s : State) : Kept s (s.readCounters l clear) := by
  unfold State.readCounters
  refine Kept.trans (.ite (fun _ => ?_) fun _ => .refl s) (.complete _ _ _)
  exact .modifyLine id

theorem LineState.within_commandHold (active : Bool) (d : Half) (r : Bool) (ln : LineState) : ln.Within (ln.commandHold active d r) := by
  unfold LineState.commandHold LineState.startBreak
  repeat' split
  all_goals first | exact ln.within_endBreak active | exact ⟨le_rfl, le_rfl, .inl rfl⟩

theorem Kept.lineHold (l : LineId) (d : Half) (r : Bool) (s : State) : Kept s (s.lineHold l d r) :=
  (Kept.modifyLine (LineState.within_commandHold _ _ _ _).bounded).trans (.complete _ _ _)

theorem LineState.within_abort (ln : LineState) : ln.Within ln.abort := by
  have emptied : ln.Within { ln with data := [] } := ⟨le_rfl, Nat.zero_le _, .inl rfl⟩
  exact (emptied.trans (LineState.within_countTimes _ _ _)).trans (LineState.within_countTimes _ _ _)

theorem Kept.lineAbort (l : LineId) (s : State) : Kept s (s.lineAbort l) :=
  (Kept.modifyLine (LineState.within_abort _).bounded).trans (.complete _ _ _)

/-! ## The transmitter -/

theorem LineState.within_sent (active acts : Bool) (item : FlightItem) (ln : LineState) : ln.Within (ln.sent active acts item) := by
  unfold LineState.sent LineState.afterSending
  refine LineState.Within.trans ?_ (LineState.within_holdAfterFlight _)
  cases item <;> exact ⟨le_rfl, le_rfl, .inr rfl⟩

theorem Kept.sentStep (l : LineId) (s : State) : Kept s (s.sentStep l) := by
  unfold State.sentStep
  split
  · exact .ite (fun _ => .modifyLine (LineState.within_sent _ _ _ _).bounded) fun _ => .refl s
  · exact .refl s

theorem LineState.within_countDrop (acts : Bool) (item : FlightItem) (ln : LineState) : ln.Within (ln.countDrop acts item) := by
  unfold LineState.countDrop
  split
  · exact ln.within_flowAgain acts
  · exact ln.within_count _
  · exact ln.within_count _

/-- A collision leaves at most three on a frame in flight, and drops the frame with the fourth (R75, R76). -/
theorem LineState.bounded_collide (active acts : Bool) (f : Flight) {ln : LineState} (b : ln.Bounded) :
    (ln.collide active acts f).Bounded := by
  obtain ⟨received, queued, flight⟩ := b
  unfold LineState.collide
  dsimp only
  split
  · refine ⟨received, queued, fun g e => ?_⟩
    cases e
    dsimp only
    omega
  · have dropped : LineState.Bounded { (ln.count .collisions).afterSending active with flight := none } :=
      ⟨received, queued, fun g e => by cases e⟩
    exact (LineState.within_holdAfterFlight _).bounded ((LineState.within_countDrop _ _ _).bounded dropped)

theorem Kept.collisionStep (l : LineId) (s : State) : Kept s (s.collisionStep l) := by
  unfold State.collisionStep
  split
  · rename_i f _
    refine .ite (fun _ => ?_) fun _ => .refl s
    have struck : Kept s (s.modifyLine l (·.collide (s.lineActive l) s.flowActs f)) := .modifyLine (LineState.bounded_collide _ _ _)
    exact .ite (fun _ => struck) fun _ => struck.trans (.raise _ _)
  · exact .refl s

theorem LineState.bounded_launch (item : FlightItem) (bytes : List Byte) {ln : LineState} (received : ln.rxQueue.length ≤ 8)
    (queued : ln.data.length ≤ 8) : (ln.launch item bytes).Bounded :=
  ⟨received, queued, fun f e => by cases e; exact Nat.zero_le _⟩

theorem Kept.startStep (l : LineId) (s : State) : Kept s (s.startStep l) := by
  unfold State.startStep
  dsimp only
  refine .ite (fun _ => ?_) fun _ => .refl s
  split
  · exact .setLine fun ⟨received, queued, _⟩ => LineState.bounded_launch _ _ received queued
  · refine .ite (fun _ => ?_) fun _ => .refl s
    split
    · exact .setLine fun ⟨received, queued, _⟩ => LineState.bounded_launch _ _ received (List.length_erase_le.trans queued)
    · exact .refl s

theorem Kept.retryStep (l : LineId) (s : State) : Kept s (s.retryStep l) := by
  unfold State.retryStep
  dsimp only
  split
  · rename_i f inFlight
    refine .ite (fun _ => ?_) fun _ => .refl s
    refine .setLine fun ⟨received, queued, flight⟩ => ⟨received, queued, fun g e => ?_⟩
    cases e
    exact flight f inFlight
  · exact .refl s

theorem Kept.echoStep {l : LineId} {f : Flight} (heard : WireChar) {s : State} (inFlight : (s.line l).flight = some f) :
    Kept s (s.echoStep l f heard) := by
  refine .ite (fun _ => .ite (fun _ => .sentStep l s) fun _ => ?_) fun _ => .collisionStep l s
  refine .modifyLine fun ⟨received, queued, flight⟩ => ⟨received, queued, fun g e => ?_⟩
  cases e
  exact flight f inFlight

/-! ## The receiver -/

theorem LineState.within_spoil (ln : LineState) : ln.Within ln.spoil := ⟨le_rfl, le_rfl, .inl rfl⟩

theorem LineState.within_gather (chars : List Byte) (ln : LineState) : ln.Within (ln.gather chars) := by
  unfold LineState.gather
  repeat' split
  all_goals exact ⟨le_rfl, le_rfl, .inl rfl⟩

theorem LineState.within_receiveLevels (heard : WireChar) (ln : LineState) : ln.Within (ln.receiveLevels heard) := by
  unfold LineState.receiveLevels LineState.receive LineState.receiveError LineState.receiveBreak
  repeat' split
  all_goals first | exact LineState.within_gather _ _ | exact ⟨le_rfl, le_rfl, .inl rfl⟩

theorem Kept.hear (l : LineId) (heard : WireChar) (s : State) : Kept s (s.hear l heard) := by
  unfold State.hear
  split
  · exact .ite (fun _ => .echoStep heard ‹_›) fun _ => .modifyLine (LineState.within_receiveLevels _ _).bounded
  · exact .modifyLine (LineState.within_receiveLevels _ _).bounded

theorem LineState.within_receiveError (ln : LineState) : ln.Within ln.receiveError := by
  unfold LineState.receiveError
  split <;> exact ⟨le_rfl, le_rfl, .inl rfl⟩

theorem LineState.within_receiveBreak (ln : LineState) : ln.Within ln.receiveBreak := by
  unfold LineState.receiveBreak
  split <;> exact ⟨le_rfl, le_rfl, .inl rfl⟩

theorem LineState.within_truncate (ln : LineState) : ln.Within ln.truncate := by
  unfold LineState.truncate
  split <;> exact ⟨le_rfl, le_rfl, .inl rfl⟩

theorem LineState.within_overlong (ln : LineState) : ln.Within ln.overlong := by
  unfold LineState.overlong
  split <;> exact ⟨le_rfl, le_rfl, .inl rfl⟩

theorem Kept.badFrameStep (l : LineId) (heard : WireChar) (s : State) : Kept s (s.badFrameStep l heard) := by
  unfold State.badFrameStep
  split
  · exact .ite (fun _ => .collisionStep l s) fun _ => .modifyLine (LineState.within_receiveError _).bounded
  · split
    · exact .ite (fun _ => .modifyLine (LineState.within_spoil _).bounded) fun _ => .refl s
    · exact .refl s
  · exact .refl s

theorem Kept.breakStep (l : LineId) (s : State) : Kept s (s.breakStep l) :=
  .ite (fun _ => .collisionStep l s) fun _ => .modifyLine (LineState.within_receiveBreak _).bounded

theorem Kept.receiverReady (l : LineId) (s : State) : Kept s (s.receiverReady l) := .modifyLine id

/-- A frame joins only a queue with room (R68). -/
theorem Kept.joinQueue (l : LineId) (f : RxFrame) (s : State) : Kept s (s.joinQueue l f) := by
  refine .ite (fun room => ?_) fun _ => (Kept.count l .overrun s).trans (.raise _ _)
  refine .modifyLine fun ⟨_, queued, flight⟩ => (LineState.within_flowOnJoin _ _).bounded ⟨?_, queued, flight⟩
  simp
  omega

theorem Kept.deliver (l : LineId) (f : RxFrame) (s : State) : Kept s (s.deliver l f) := by
  unfold State.deliver
  split
  · refine (Kept.modifyLine fun b => ?_).trans (.receiverReady _ _)
    unfold LineState.pauseFrom
    split <;> exact b
  · exact (Kept.modifyLine id).trans (.receiverReady _ _)
  · exact (Kept.joinQueue l f s).trans (.receiverReady _ _)

theorem Kept.deliverIf (p : FrameKind → Bool) (l : LineId) (s : State) : Kept s (s.deliverIf p l) := by
  unfold State.deliverIf
  split
  · exact .ite (fun _ => .deliver _ _ _) fun _ => .refl s
  · exact .refl s

theorem Kept.idleGap (l : LineId) (s : State) : Kept s (s.idleGap l) := by
  unfold State.idleGap
  split
  · exact .receiverReady _ _
  · exact .receiverReady _ _
  · exact .modifyLine (LineState.within_truncate _).bounded
  · exact .deliver _ _ _
  · exact .refl s

theorem Kept.pauseExpiry (l : LineId) (s : State) : Kept s (s.pauseExpiry l) := .modifyLine id

theorem Kept.holdEnd (l : LineId) (s : State) : Kept s (s.holdEnd l) := by
  unfold State.holdEnd
  split
  · exact .ite (fun _ => .refl s) fun _ => .modifyLine (LineState.within_endBreak _ _).bounded
  · exact .refl s

/-! ## Modes -/

/-- A REQUEST_MODE waits, is answered, or begins the resume of a STANDBY to RUN or LISTEN (R172). -/
theorem Kept.requestMode (m : Mode) (s : State) : Kept s (s.requestMode m) := by
  have waits : layoutCovers s → layoutCovers { s with slot := .pending (.requestMode m) } := fun h => ⟨h.1, fun _ e => by cases e⟩
  unfold State.requestMode
  dsimp only
  refine .ite (fun _ => ?_) fun still => .ite (fun _ => .complete _ _ _) fun _ => .ite (fun wakes => ?_) fun _ => ?_
  · exact .of_registers rfl rfl id id id waits id rfl
  · refine .of_registers rfl rfl id id id waits (fun h => ?_) rfl
    simp only [Bool.and_eq_true, Bool.or_eq_true, decide_eq_true_eq, beq_iff_eq] at wakes
    simp only [modesAgree, wakes.1] at h ⊢
    simp
    tauto
  · exact .of_registers rfl rfl id id id waits id rfl

/-- A state that enters its lines anew in another mode, the rest of its registers as they were. -/
theorem Kept.of_modes {s t : State} (slots : t.slots = s.slots) (holds : t.holds = s.holds) (notices : t.notices = s.notices)
    (lines : queuesBounded s → queuesBounded t) (engine : t.engineRegisters = s.engineRegisters)
    (table : t.tableRegisters = s.tableRegisters) (modes : modesAgree s → modesAgree t) (pending : t.pending = s.pending) : Kept s t :=
  .of_registers slots holds (noticesBounded_congr notices) lines (arbiterInRange_congr engine) (layoutCovers_congr table) modes pending

theorem queuesBounded_enableLines {s : State} (h : queuesBounded s) : queuesBounded s.enableLines := (Kept.enableLines s).queues h

theorem LineState.within_silence (ln : LineState) : ln.Within ln.silence := ⟨le_rfl, Nat.zero_le _, .inl rfl⟩

/-- Registers of the mode controller that agree with no transition in flight. -/
theorem modesAgree_of_still {t : State} (still : t.transition = none) (target : t.target = t.mode)
    (origin : t.origin.isSome = true ↔ t.mode = .standby) (startup : t.startup = .inProgress ↔ t.mode = .starting) : modesAgree t := by
  simp [modesAgree, still, target, origin, startup]

/-- A mode entered from another one, both in service (R171). -/
theorem Kept.enterMode {s : State} {m : Mode} (still : s.transition = none) (was : inService s.mode = true) (is : inService m = true) :
    Kept s (s.enterMode m) := by
  refine .of_registers rfl rfl id id id id (fun h => ?_) rfl
  obtain ⟨-, origin, -, -, startup⟩ := h
  refine modesAgree_of_still still rfl (origin.trans ?_) (startup.trans ?_) <;>
    cases mode : s.mode <;> cases m <;> simp_all [inService, State.enterMode]

theorem Kept.install (s : State) : Kept s s.install := .of_same rfl rfl rfl rfl rfl rfl rfl rfl

theorem Kept.startTicks (s : State) : Kept s s.startTicks := .of_same rfl rfl rfl rfl rfl rfl rfl rfl

theorem Kept.configToTraffic {s : State} {m : Mode} (still : s.transition = none) (config : s.mode = .config)
    (is : inService m = true) : Kept s (s.configToTraffic m) := by
  have installed : Kept s (if s.commitRequested then s.install else s) := .ite (fun _ => .install s) fun _ => .refl s
  refine ((installed.trans (.enterMode ?_ ?_ is)).trans (.enableLines _)).trans (.startTicks _)
  · split <;> exact still
  · split
    · show inService s.mode = true
      rw [config]
      rfl
    · rw [config]
      rfl

/-- The immediate transitions (R172), pair by pair. -/
theorem isImmediate_cases {a b : Mode} (h : isImmediate a b = true) :
    (a = .config ∧ (b = .run ∨ b = .listen)) ∨ (a = .config ∧ b = .standby) ∨ (a = .run ∧ b = .listen) ∨ (a = .listen ∧ b = .run) ∨
      (a = .standby ∧ b = .config) := by
  cases a <;> cases b <;> simp_all [isImmediate]

/-- The effects of an immediate transition (R173). -/
theorem Kept.immediate {s : State} {m : Mode} (still : s.transition = none) (allowed : isImmediate s.mode m = true) :
    Kept s (s.immediate m) := by
  unfold State.immediate
  rcases isImmediate_cases allowed with ⟨was, is⟩ | ⟨was, rfl⟩ | ⟨was, rfl⟩ | ⟨was, rfl⟩ | ⟨was, rfl⟩
  · have traffic : Kept s (s.configToTraffic m) := .configToTraffic still was (by rcases is with rfl | rfl <;> rfl)
    rcases is with rfl | rfl <;> rw [was] <;> exact traffic
  · rw [was]
    refine .of_registers rfl rfl id id id id (fun h => modesAgree_of_still still rfl ?_ ?_) rfl
    · simp [State.enterMode]
    · exact h.2.2.2.2.trans (by simp [was, State.enterMode])
  · rw [was]
    have silenced : Kept s (s.mapLines fun _ ln => ln.silence) := .mapLines fun _ => (LineState.within_silence _).bounded
    exact silenced.trans (.enterMode still (by show inService s.mode = true; rw [was]; rfl) rfl)
  · rw [was]
    exact .enterMode still (by rw [was]; rfl) rfl
  · rw [was]
    refine .of_registers rfl rfl id id id id (fun h => modesAgree_of_still still rfl ?_ ?_) rfl
    · simp [State.enterMode]
    · exact h.2.2.2.2.trans (by simp [was, State.enterMode])

theorem Kept.immediateStep (s : State) : Kept s s.immediateStep := by
  unfold State.immediateStep
  split
  · refine .ite (fun begins => ?_) fun _ => .refl s
    simp only [Bool.and_eq_true, decide_eq_true_eq] at begins
    exact (Kept.immediate begins.1 begins.2).trans (.complete _ _ _)
  · exact .refl s

theorem LineState.within_drained (ln : LineState) : ln.Within ln.drained := ⟨le_rfl, Nat.zero_le _, .inl rfl⟩

/-- A sweep that is abandoned leaves the sweep-wait count at 0 (R126). -/
theorem Kept.abandonSweep (s : State) : Kept s s.abandonSweep :=
  .of_registers rfl rfl id id (fun ⟨f1, f15, w1, w255, run, _⟩ => ⟨f1, f15, w1, w255, run, Nat.zero_le _, fun _ => rfl⟩) id id rfl

/-- The modes between which a drain runs (R172). -/
theorem isDrain_cases {a b : Mode} (h : isDrain a b = true) : (a = .run ∨ a = .listen) ∧ (b = .config ∨ b = .standby) := by
  cases a <;> cases b <;> simp_all [isDrain]

theorem Kept.startDrain {s : State} {m : Mode} (drains : isDrain s.mode m = true) : Kept s (s.startDrain m) := by
  have quiet : Kept s (s.mapLines fun _ ln => ln.drained).abandonSweep :=
    (Kept.mapLines fun _ => (LineState.within_drained _).bounded).trans (.abandonSweep _)
  refine quiet.trans (.of_registers rfl rfl id id id id (fun h => ?_) rfl)
  obtain ⟨-, origin, -, -, startup⟩ := h
  exact ⟨fun e => (by cases e), origin, fun _ => isDrain_cases drains, fun e => (by cases e), startup⟩

theorem Kept.drainStep (s : State) : Kept s s.drainStep := by
  unfold State.drainStep
  split
  · refine .ite (fun begins => ?_) fun _ => .refl s
    simp only [Bool.and_eq_true, decide_eq_true_eq] at begins
    exact .startDrain begins.2
  · exact .refl s

/-- The end of a drain reaches its target, and keeps the origin in STANDBY alone (R174). -/
theorem Kept.endDrain {s : State} (draining : s.transition = some .drain) : Kept s s.endDrain := by
  have reached : Kept s (State.enterMode s.target { s with
      prescale := 0, transition := none, origin := if s.target == Mode.standby then some s.mode else none }) := by
    refine .of_registers rfl rfl id id id id (fun h => ?_) rfl
    obtain ⟨-, -, drain, -, startup⟩ := h
    obtain ⟨mode, target⟩ := drain draining
    refine modesAgree_of_still rfl rfl ?_ (startup.trans ?_)
    · rcases target with e | e <;> simp [State.enterMode, e]
    · rcases mode with e | e <;> rcases target with f | f <;> simp [State.enterMode, e, f]
  exact reached.trans (.complete _ _ _)

theorem Kept.drainEndStep (s : State) : Kept s s.drainEndStep := by
  refine .ite (fun ends => ?_) fun _ => .refl s
  simp only [Bool.and_eq_true, decide_eq_true_eq] at ends
  exact .endDrain ends.1

/-- A wake begins the resume to the mode that STANDBY was entered from (R176). -/
theorem Kept.wake (l : LineId) (s : State) : Kept s (s.wake l) := by
  refine .ite (fun wakes => ?_) fun _ => .refl s
  refine (Kept.raise .wake s).trans (.of_registers rfl rfl id id id id (fun h => ?_) rfl)
  obtain ⟨-, origin, -, -, startup⟩ := h
  simp only [State.watched, Bool.and_eq_true, Bool.or_eq_true, beq_iff_eq] at wakes
  obtain ⟨⟨⟨⟨⟨standby, from_⟩, -⟩, -⟩, -⟩, -⟩ := wakes
  refine ⟨fun e => (by cases e), origin, fun e => (by cases e), fun _ => ⟨standby, ?_⟩, startup⟩
  rcases from_ with e | e <;> simp [e]

theorem Kept.settleRequest (s : State) : Kept s s.settleRequest := by
  unfold State.settleRequest
  split
  · exact .ite (fun _ => .complete _ _ _) fun _ => .refl s
  · exact .refl s

/-- The end of a resume reaches its target and forgets the origin (R175). -/
theorem Kept.completeResume {s : State} (resuming : s.transition = some .resume) : Kept s s.completeResume := by
  have reached : Kept s (State.enterMode s.target { s with origin := none, transition := none }) := by
    refine .of_registers rfl rfl id id id id (fun h => ?_) rfl
    obtain ⟨-, -, -, resume, startup⟩ := h
    obtain ⟨standby, target⟩ := resume resuming
    refine modesAgree_of_still rfl rfl ?_ (startup.trans ?_)
    · rcases target with e | e <;> simp [State.enterMode, e]
    · rcases target with e | e <;> simp [State.enterMode, e, standby]
  exact ((reached.trans (.enableLines _)).trans (.startTicks _)).trans (.settleRequest _)

theorem Kept.resumeStep (s : State) : Kept s s.resumeStep := .ite (fun resumes => .completeResume resumes) fun _ => .refl s

/-! ## The engine and the table commands -/

/-- The arbiter's choice of a requester other than the sweep: while a sweep is in flight its share is not yet due (R49). -/
theorem State.wait_of_grantNext {s : State} (granted : s.grantNext ≠ some .sweep) (some_ : s.grantNext ≠ none)
    (sweeping : s.sweep.isSome = true) : s.arb.sweepWait < s.arb.sweepShare := by
  by_contra due
  unfold State.grantNext at granted some_
  split at some_
  · exact some_ rfl
  · rename_i started
    rw [if_neg started, if_pos (by simp [sweeping]; omega)] at granted
    exact granted rfl

/-- The arbiter chooses the command slot before a requesting line only while the run is below the field share (R49). -/
theorem State.run_of_grantNext {s : State} (granted : s.grantNext = some .command) (requested : s.anyLineRequests = true) :
    s.arb.run < s.arb.fieldShare := by
  unfold State.grantNext at granted
  split at granted
  · cases granted
  · split at granted
    · cases granted
    · split at granted
      · rename_i chosen
        have := chosen
        simp only [requested, Bool.and_eq_true, Bool.or_eq_true, decide_eq_true_eq] at this
        simpa using this.2
      · split at granted
        · cases granted
        · split at granted <;> cases granted

/-- The sweep-wait count after a grant to another requester keeps its range. -/
theorem State.waitAfterOther_le {s : State} (wait : s.sweep.isSome = true → s.arb.sweepWait < s.arb.sweepShare)
    (h : s.arb.sweepWait ≤ s.arb.sweepShare) : s.waitAfterOther ≤ s.arb.sweepShare := by
  unfold State.waitAfterOther
  split
  · exact wait ‹_›
  · exact h

theorem State.waitAfterOther_none {s : State} (none : s.sweep = none) : s.waitAfterOther = s.arb.sweepWait := by
  simp [State.waitAfterOther, none]

/-- A grant to the command slot (R50). -/
theorem Kept.grantCommand {s : State} (wait : s.sweep.isSome = true → s.arb.sweepWait < s.arb.sweepShare)
    (run : s.anyLineRequests = true → s.arb.run < s.arb.fieldShare) : Kept s s.grantCommand :=
  .of_registers rfl rfl id id (fun ⟨f1, f15, w1, w255, _, waited, idle⟩ => by
    refine ⟨f1, f15, w1, w255, ?_, State.waitAfterOther_le wait waited, fun none => ?_⟩
    rotate_left
    · exact Eq.trans (b := s.arb.sweepWait) (State.waitAfterOther_none none) (idle none)
    show (if s.anyLineRequests then s.arb.run + 1 else 0) ≤ s.arb.fieldShare
    split
    · exact run ‹_›
    · exact Nat.zero_le _) id id rfl

theorem Kept.grantCommand_of_grantNext {s : State} (granted : s.grantNext = some .command) : Kept s s.grantCommand :=
  .grantCommand (State.wait_of_grantNext (by simp [granted]) (by simp [granted])) (State.run_of_grantNext granted)

/-- A grant to a line (R50). -/
theorem Kept.grantLine {s : State} {l : LineId} (granted : s.grantNext = some (.line l)) : Kept s (s.grantLine l) :=
  have wait := State.wait_of_grantNext (s := s) (by simp [granted]) (by simp [granted])
  .of_registers rfl rfl id id (fun ⟨f1, f15, w1, w255, _, waited, idle⟩ => ⟨f1, f15, w1, w255, Nat.zero_le _,
    State.waitAfterOther_le wait waited, fun none => Eq.trans (b := s.arb.sweepWait) (State.waitAfterOther_none none) (idle none)⟩) id id rfl

/-- A grant to the sweep (R50). -/
theorem Kept.grantSweep (s : State) : Kept s s.grantSweep :=
  .of_registers rfl rfl id id (fun ⟨f1, f15, w1, w255, run, _⟩ => ⟨f1, f15, w1, w255, run, Nat.zero_le _, fun _ => rfl⟩) id id rfl

theorem State.visible_of_current {s : State} {h : Handle} (current : s.isCurrent h = true) (sound : (s.slotAt h.slot).state ≠ .faulted) :
    (s.slotAt h.slot).visible = true := by
  simp [Slot.visible, State.occupied_of_current current, sound]

theorem State.lt_of_occupied {s : State} {i : Nat} (occupied : (s.slotAt i).state ≠ .empty) : i < 512 := by
  by_contra outside
  rw [s.slotAt_of_le (i := i) (by omega)] at occupied
  exact occupied rfl

theorem Kept.onRecord {h : Handle} {f g : State → State} {s : State} (lost : Kept s (f s))
    (run : s.isCurrent h = true → (s.slotAt h.slot).visible = true → Kept s (g s)) : Kept s (s.onRecord h f g) := by
  unfold State.onRecord
  refine .ite (fun _ => .complete _ _ _) fun current => .ite (fun _ => lost) fun sound => ?_
  have current : s.isCurrent h = true := by simpa using current
  exact run current (State.visible_of_current current sound)

theorem Kept.onBody {h : Handle} {f g : State → State} {s : State} (lost : ∀ t, Kept t (f t))
    (run : ∀ t, (t.slotAt h.slot).visible = (s.slotAt h.slot).visible → Kept t (g t)) : Kept s (s.onBody h f g) := by
  unfold State.onBody
  dsimp only
  refine (Kept.checkBody .command h.slot s).trans (.ite (fun _ => lost _) fun found => run _ ?_)
  exact State.checkBody_visible (by simpa using found) _

theorem Kept.answerFaulted (s : State) : Kept s s.answerFaulted := .complete _ _ _

/-- A made record has no value yet (R16). -/
theorem createdBody_value (exported : Bool) (p : Policy) (now : Tick) : (createdBody exported p now).value = none := by
  unfold createdBody
  dsimp only
  split <;> rfl

theorem Kept.opCreate (exported : Bool) (k : Key) (p : Policy) (s : State) : Kept s (s.opCreate exported k p) := by
  refine .ite (fun _ => .complete _ _ _) fun unused => ?_
  split
  · exact .complete _ _ _
  · rename_i i found
    have free : s.keyFree k = true := State.keyFree_of_lookup (by simpa using unused)
    have made : Kept s (s.modifySlot i (Slot.occupy .new (createdKind exported) k (createdBody exported p s.tick))) :=
      .occupy (State.firstEmpty_some found).2 free rfl rfl (by simp [Slot.occupy]) (fun h => by simp [Slot.occupy] at h)
        fun _ => createdBody_value exported p s.tick
    exact made.trans (.complete _ _ _)

theorem Kept.opFind (k : Key) (s : State) : Kept s (s.opFind k) := by
  unfold State.opFind
  split <;> exact .complete _ _ _

theorem Kept.opRead (h : Handle) (s : State) : Kept s (s.opRead h) :=
  .onRecord (.complete _ _ _) fun _ _ => .onBody (fun _ => .complete _ _ _) fun _ _ => .complete _ _ _

theorem Kept.opWrite (h : Handle) (v : List Byte) (now : Bool) (s : State) : Kept s (s.opWrite h v now) := by
  refine .onRecord (.answerFaulted s) fun _ seen => .onBody .answerFaulted fun t same => ?_
  have written : Kept t (t.modifySlot h.slot (Slot.written v t.tick)) := .modifySlot (.of_valued rfl rfl rfl rfl (same.trans seen))
  exact (written.trans (.ite (fun _ => .publish _ _) fun _ => .refl _)).trans (.complete _ _ _)

/-- MODIFY leaves the value of a record as it is (R152). -/
theorem modifiedBody_value (p : Policy) (set : Option (LineSet × Fin 4)) (now : Tick) (b : Body) :
    (modifiedBody p set now b).value = b.value := by
  unfold modifiedBody
  dsimp only
  split
  · rfl
  · split <;> rfl

theorem Kept.dropLeftLines (h : Handle) (old new : LineSet) (s : State) : Kept s (s.dropLeftLines h old new) :=
  .mapLines fun _ b => by
    split
    · exact (LineState.within_dropPublish _ _).bounded b
    · exact b

theorem Kept.opModify (h : Handle) (p : Policy) (s : State) : Kept s (s.opModify h p) := by
  refine .onRecord (.answerFaulted s) fun _ _ => .ite (fun _ => .complete _ _ _) fun _ => .onBody .answerFaulted fun t _ => ?_
  exact ((Kept.modifySlot (.of_same rfl rfl rfl (modifiedBody_value _ _ _ _))).trans (.dropLeftLines _ _ _ _)).trans (.complete _ _ _)

theorem Kept.opRetire (h : Handle) (s : State) : Kept s (s.opRetire h) :=
  .ite (fun _ => (Kept.retire h.slot s).trans (.complete _ _ _)) fun _ => .complete _ _ _

theorem Kept.opHold (h : Handle) (limit : Byte) (s : State) : Kept s (s.opHold h limit) := by
  refine .onRecord (.answerFaulted s) fun current _ => .ite (fun _ => .complete _ _ _) fun free => .ite (fun _ => .complete _ _ _)
    fun room => ?_
  have occupied := State.occupied_of_current current
  have held : Kept s (s.withHold { slot := h.slot, gen := h.gen, start := s.tick, limit := limit, update := none, superseded := 0 }) :=
    .withHold (State.lt_of_occupied occupied) (by omega) (by simpa using free) occupied
  exact held.trans (.complete _ _ _)

theorem Kept.releaseHeld {h : Handle} {s : State} (apply : Bool) (e : HoldEntry) (seen : (s.slotAt h.slot).visible = true) :
    Kept s (s.releaseHeld h apply e) := by
  refine .ite (fun _ => .onBody .answerFaulted fun t same => ?_) fun _ => (Kept.dropHold h.slot s).trans (.complete _ _ _)
  exact ((Kept.applyPending _ (same.trans seen)).trans (.dropHold _ _)).trans (.complete _ _ _)

theorem Kept.opRelease (h : Handle) (apply : Bool) (s : State) : Kept s (s.opRelease h apply) := by
  refine .onRecord (.answerFaulted s) fun _ seen => .ite (fun _ => ?_) fun _ => .ite (fun _ => ?_) fun _ => .complete _ _ _
  · split
    · exact .releaseHeld _ _ seen
    · exact (Kept.dropHold h.slot s).trans (.complete _ _ _)
  · exact (Kept.modifySlot (.of_same rfl rfl rfl rfl)).trans (.complete _ _ _)

/-- SET_LAYOUT moves to a layout that covers the table (R15). -/
theorem Kept.moveLayout {y : Layout} {s t : State} (body : List Byte) (retired : Kept s t) (same : t.tableRegisters = s.tableRegisters)
    (covers : layoutCovers s → y.b + y.l + y.e = 512) :
    Kept s (State.complete .ok body { t with layout := y, victim := y.b }) :=
  retired.trans (.of_registers rfl rfl id id id (fun h => ⟨covers (layoutCovers_congr same.symm h), fun _ e => by cases e⟩) id rfl)

theorem Kept.opSetLayout {y : Layout} {s : State} (covers : layoutCovers s → y.b + y.l + y.e = 512) : Kept s (s.opSetLayout y) := by
  have same : (s.retireAll Slot.isLearned (.evicted .layout)).tableRegisters = s.tableRegisters :=
    State.retireAll_keeps State.tableRegisters _ _ (fun _ _ => by simp [State.tableRegisters]) s
  unfold State.opSetLayout
  exact .ite (fun _ => .complete _ _ _) fun _ => .moveLayout _ (.retireAll _ _ _) same covers

/-- The operation of a table command; the layout of a SET_LAYOUT is one that the port has checked, or that has waited in the slot. -/
theorem Kept.tableOperation {c : HostCommand} {s : State}
    (covers : ∀ y, c = .setLayout y → layoutCovers s → y.b + y.l + y.e = 512) : Kept s (s.tableOperation c) := by
  unfold State.tableOperation
  cases c with
  | create exported key p => exact .opCreate _ _ _ _
  | find key => exact .opFind _ _
  | read h => exact .opRead _ _
  | write h v now => exact .opWrite _ _ _ _
  | modify h p => exact .opModify _ _ _
  | retire h => exact .opRetire _ _
  | hold h limit => exact .opHold _ _ _
  | release h apply => exact .opRelease _ _ _
  | setLayout y => exact .opSetLayout (covers y rfl)
  | purge _ => exact .refl _
  | requestMode _ => exact .refl _
  | reset => exact .refl _

theorem Kept.commandOperation (s : State) : Kept s s.commandOperation := by
  unfold State.commandOperation
  split
  · exact .refl s
  · rename_i c _ waiting
    refine .ite (fun granted => (Kept.grantCommand_of_grantNext granted).trans (.tableOperation fun y e h => ?_)) fun _ => .refl s
    exact h.2 y (waiting.trans (by rw [e]))
  · exact .refl s

/-- A table command at the port waits or is carried out at once (R49). -/
theorem Kept.requestEngine {c : HostCommand} (covers : ∀ y, c = .setLayout y → y.b + y.l + y.e = 512) (s : State) :
    Kept s (requestEngine c s) := by
  have waits : Kept s { s with slot := .pending c } := .of_registers rfl rfl id id id (fun h => ⟨h.1, fun y e => by
    cases e
    exact covers y rfl⟩) id rfl
  refine .ite (fun _ => waits) fun idle => ?_
  simp only [Bool.or_eq_true, not_or, Bool.not_eq_true] at idle
  have granted : Kept { s with slot := .pending c } (State.grantCommand { s with slot := .pending c }) :=
    .grantCommand (fun h => absurd h (by simp [idle.2])) fun h => absurd h (by simp [idle.1])
  exact (waits.trans granted).trans (.tableOperation fun y e _ => covers y e)

theorem Kept.startPurge (f : PurgeFilter) (s : State) : Kept s (s.startPurge f) :=
  .of_registers rfl rfl id id id (fun h => ⟨h.1, fun _ e => by cases e⟩) id rfl

theorem Kept.purgeVisitAt (f : PurgeFilter) (p : PurgeRun) (s : State) : Kept s (s.purgeVisitAt f p) := by
  unfold State.purgeVisitAt
  dsimp only
  have visited : Kept s (if f.passes (s.layout.kindAt p.pos) (s.slotAt p.pos) then s.retire p.pos else s) :=
    .ite (fun _ => .retire _ _) fun _ => .refl s
  refine visited.trans (.ite (fun _ => .of_same rfl rfl rfl rfl rfl rfl rfl rfl) fun _ => ?_)
  exact .settings rfl rfl rfl rfl rfl rfl rfl rfl

theorem Kept.purgeStep (s : State) : Kept s s.purgeStep := by
  unfold State.purgeStep
  split
  · exact .ite (fun granted => (Kept.grantCommand_of_grantNext granted).trans (.purgeVisitAt _ _ _)) fun _ => .refl s
  · exact .refl s

/-! ## Ticks and the sweep -/

theorem Kept.startSweep (s : State) : Kept s s.startSweep := by
  rw [State.startSweep_writes]
  exact .of_registers rfl rfl id id (fun ⟨f1, f15, w1, w255, run, _⟩ => ⟨f1, f15, w1, w255, run, Nat.zero_le _, fun _ => rfl⟩) id id rfl

theorem Kept.sweepControl (s : State) : Kept s s.sweepControl := by
  refine .ite (fun _ => .refl s) fun _ => .ite (fun _ => .startSweep s) fun _ => .ite (fun _ => .raise _ s) fun _ => ?_
  exact .of_same rfl rfl rfl rfl rfl rfl rfl rfl

theorem Kept.tickNow (s : State) : Kept s s.tickNow := by
  have ticked : Kept s { s with tick := s.tick + 1, prescale := 0 } := .of_same rfl rfl rfl rfl rfl rfl rfl rfl
  have expired : ∀ t : State, Kept t (t.mapLines fun _ ln => ln.expirePauses t.tick) := fun t => .mapLines fun _ b => b
  exact (ticked.trans (expired _)).trans (.sweepControl _)

theorem Kept.tickStep (s : State) : Kept s s.tickStep := .ite (fun _ => .tickNow s) fun _ => .refl s

theorem LineState.within_countHold (active : Bool) (ln : LineState) : ln.Within (ln.countHold active) := by
  unfold LineState.countHold
  repeat' split
  all_goals first | exact ln.within_endBreak active | exact ⟨le_rfl, le_rfl, .inl rfl⟩

theorem Kept.countPrescale (s : State) : Kept s s.countPrescale :=
  .ite (fun _ => .ite (fun _ => .tickNow s) fun _ => .of_same rfl rfl rfl rfl rfl rfl rfl rfl) fun _ => .refl s

theorem Kept.millisecond (s : State) : Kept s s.millisecond := by
  have waited : Kept s { s with notices := s.notices.map (Notice.wait 1) } :=
    .of_registers rfl rfl (noticesBounded_map (f := Notice.wait 1) (fun _ => rfl) rfl) id id id id rfl
  have counted : ∀ t : State, Kept t (t.mapLines fun l ln => ln.countHold (t.lineActive l)) := fun t =>
    .mapLines fun _ => (LineState.within_countHold _ _).bounded
  exact (waited.trans (counted _)).trans (.countPrescale _)

/-- Ageing leaves a visible record visible (R124). -/
theorem State.ageSlot_visible {n : Tick} {i : Nat} {s : State} (seen : (s.slotAt i).visible = true) :
    ((s.ageSlot n i).slotAt i).visible = true := by
  unfold State.ageSlot
  dsimp only
  split
  · have inTable : i < 512 := State.lt_of_occupied (s := s) fun e => by simp [Slot.visible, e] at seen
    rw [State.slotAt_postIf, State.slotAt_modifySlot_self _ _ inTable]
    rfl
  · exact seen

theorem Kept.ageSlot {n : Tick} {i : Nat} {s : State} (seen : (s.slotAt i).visible = true) : Kept s (s.ageSlot n i) :=
  .ite (fun _ => (Kept.modifySlot (.of_dull rfl rfl (.inr ⟨rfl, seen⟩))).trans (.postIf _ _ _ _)) fun _ => .refl s

theorem Kept.expireHold {n : Tick} {i : Nat} {s : State} (seen : (s.slotAt i).visible = true) : Kept s (s.expireHold n i) := by
  unfold State.expireHold
  split
  · refine .ite (fun _ => ?_) fun _ => .refl s
    exact (((Kept.applyPending _ seen).trans (.dropHold _ _)).trans (.modifySlot (.of_same rfl rfl rfl rfl))).trans (.post _ _ _)
  · exact .refl s

theorem Kept.evictByAge (n : Tick) (i : Nat) (s : State) : Kept s (s.evictByAge n i) :=
  .ite (fun _ => .retireWith _ _ _) fun _ => .refl s

theorem Kept.publishDue (n : Tick) (i : Nat) (s : State) : Kept s (s.publishDue n i) := by
  refine .ite (fun _ => ?_) fun _ => .refl s
  have published : Kept s (if s.mode = .run then s.publish i else s) := .ite (fun _ => .publish i s) fun _ => .refl s
  exact published.trans (.modifySlot (.of_same rfl rfl rfl rfl))

theorem Kept.judgeSlot {n : Tick} {i : Nat} {s : State} (seen : (s.slotAt i).visible = true) : Kept s (s.judgeSlot n i) := by
  have aged : Kept s ((s.ageSlot n i).expireHold n i) := (Kept.ageSlot seen).trans (.expireHold (State.ageSlot_visible seen))
  exact (aged.trans (.ite (fun _ => .evictByAge _ _ _) fun _ => .refl _)).trans (.publishDue _ _ _)

theorem Kept.visitSlot (n : Tick) (i : Nat) (s : State) : Kept s (s.visitSlot n i) := by
  refine .ite (fun _ => .refl s) fun sound => (Kept.checkBody .sweep i s).trans (.ite (fun _ => .refl _) fun goesOn => ?_)
  simp only [Bool.or_eq_true, decide_eq_true_eq, not_or, Bool.not_eq_true] at goesOn
  obtain ⟨occupied, found⟩ := goesOn
  exact .judgeSlot ((State.checkBody_visible found i).trans (by simp [Slot.visible, occupied, sound]))

theorem Kept.endSweep (s : State) : Kept s s.endSweep := by
  have ended : Kept s { s with sweep := none, sweepOwed := false, arb := { s.arb with sweepWait := 0 } } :=
    .of_registers rfl rfl id id (fun ⟨f1, f15, w1, w255, run, _⟩ => ⟨f1, f15, w1, w255, run, Nat.zero_le _, fun _ => rfl⟩) id id rfl
  exact ended.trans (.ite (fun _ => .startSweep _) fun _ => .refl _)

theorem Kept.advanceSweep (w : Sweep) (s : State) : Kept s (s.advanceSweep w) := by
  refine .ite (fun _ => .of_registers rfl rfl id id (fun h => ?_) id id rfl) fun _ => .endSweep s
  obtain ⟨f1, f15, w1, w255, run, wait, -⟩ := h
  exact ⟨f1, f15, w1, w255, run, wait, fun e => by cases e⟩

theorem Kept.sweepStep (s : State) : Kept s s.sweepStep := by
  unfold State.sweepStep
  split
  · exact .ite (fun _ => ((Kept.grantSweep s).trans (.visitSlot _ _ _)).trans (.advanceSweep _ _)) fun _ => .refl s
  · exact .refl s

/-! ## Frames -/

theorem Kept.takeFrame {s : State} {l : LineId} {f : RxFrame} {rest : List RxFrame} (granted : s.grantNext = some (.line l))
    (queue : (s.line l).rxQueue = f :: rest) : Kept s (s.takeFrame l rest) := by
  refine (Kept.grantLine granted).trans (.modifyLine fun b => ?_)
  have shorter : LineState.Within (s.line l) { s.line l with rxQueue := rest } := ⟨by simp [queue], le_rfl, .inl rfl⟩
  exact ((shorter.trans (LineState.within_flowOnFall _ _)).trans (LineState.within_count _ _)).bounded b

theorem Kept.classified {l : LineId} {f : RxFrame} {next : Fin 16 → Key → State → State} (h : ∀ n k t, Kept t (next n k t)) (s : State) :
    Kept s (s.classified l f next) := by
  unfold State.classified
  split
  · exact .count _ _ _
  · exact .ite (fun _ => .count _ _ _) fun _ => .ite (fun _ => .count _ _ _) fun _ => h _ _ _

theorem Kept.frameOperation {kind : FrameKind} {op : LineId → RxFrame → State → State} (h : ∀ l f t, Kept t (op l f t)) (l : LineId)
    (s : State) : Kept s (s.frameOperation kind op l) := by
  unfold State.frameOperation
  split
  · rename_i queue
    refine .ite (fun taken => ?_) fun _ => .refl s
    simp only [Bool.and_eq_true, decide_eq_true_eq] at taken
    exact (Kept.takeFrame taken.1.1 queue).trans (h _ _ _)
  · exact .refl s

/-- A birth makes a FRESH record with a value and a free key in an EMPTY slot (R112). -/
theorem Kept.birth {s : State} {i : Nat} {key : Key} (l : LineId) (f : RxFrame) (n : Fin 16) (was : (s.slotAt i).state = .empty)
    (free : s.keyFree key = true) : Kept s (s.birth i l f n key) := by
  have born : Kept s (s.modifySlot i (Slot.occupy .fresh .learned key (learnedBody l f n (s.active.classes.get n) s.tick))) :=
    .occupy was free rfl rfl (by simp [Slot.occupy]) (fun _ => rfl) fun h => by simp [Slot.occupy] at h
  exact born.trans (.postIf _ _ _ _)

/-- A key that no visible record overlaps stays so where no record becomes visible with another key. -/
theorem State.keyFree_of_slots {s t : State} {k : Key} (slots : ∀ i, (t.slotAt i).visible = true →
    (s.slotAt i).visible = true ∧ (t.slotAt i).key = (s.slotAt i).key) (free : s.keyFree k = true) : t.keyFree k = true := by
  simp only [State.keyFree, List.all_eq_true, List.mem_range, Bool.not_eq_true', Slot.matchesKey] at *
  intro i inTable
  by_cases seen : (t.slotAt i).visible = true
  · obtain ⟨was, key⟩ := slots i seen
    have := free i inTable
    rw [seen, key]
    rwa [was] at this
  · simp [seen]

/-- The victim of an eviction leaves an EMPTY slot, and no key that was free is taken (R111). -/
theorem Kept.evictVictim (v : Nat) (s : State) : Kept s (s.evictVictim v) :=
  (Kept.retireWith _ v s).trans (.of_same rfl rfl rfl rfl rfl rfl rfl rfl)

theorem State.evictVictim_empty (v : Nat) (s : State) : ((s.evictVictim v).slotAt v).state = .empty := by
  show ((s.retireWith (.evicted .replaced) v).slotAt v).state = .empty
  rw [State.slotAt_retireWith]
  dsimp only
  split
  · rfl
  · rename_i outside
    rw [s.slotAt_of_le (i := v) (by simpa using outside)]
    rfl

theorem State.keyFree_evictVictim {v : Nat} {s : State} {k : Key} (free : s.keyFree k = true) : (s.evictVictim v).keyFree k = true := by
  refine State.keyFree_of_slots (fun i seen => ?_) free
  have same : (s.evictVictim v).slotAt i = (s.retireWith (.evicted .replaced) v).slotAt i := rfl
  rw [same, State.slotAt_retireWith] at seen ⊢
  by_cases emptied : i = v ∧ v < 512
  · rw [if_pos emptied] at seen
    simp [Slot.visible, Slot.emptied] at seen
  · rw [if_neg emptied] at seen ⊢
    exact ⟨seen, rfl⟩

theorem Kept.learn {key : Key} {s : State} (l : LineId) (f : RxFrame) (n : Fin 16) (free : s.keyFree key = true) :
    Kept s (s.learn l f n key) := by
  refine .ite (fun _ => .count _ _ _) fun _ => ?_
  split
  · rename_i i found
    exact .birth l f n (State.firstEmpty_some found).2 free
  · split
    · rename_i v _
      exact (Kept.evictVictim v s).trans (.birth l f n (State.evictVictim_empty v s) (State.keyFree_evictVictim free))
    · exact .count _ _ _

/-- What a lookup finds is a visible record (R9, R32). -/
theorem State.visible_of_lookup {s : State} {k : Key} {i : Nat} (found : s.lookup k = some i) : (s.slotAt i).visible = true := by
  have := (State.lookup_some found).2
  simp only [Slot.matchesKey, Bool.and_eq_true] at this
  exact this.1

theorem Kept.updateFound {s : State} {i : Nat} (l : LineId) (f : RxFrame) (seen : (s.slotAt i).visible = true) :
    Kept s (s.updateFound l f i) := by
  refine .ite (fun _ => .count _ _ _) fun _ => (Kept.checkBody (.line l) i s).trans ?_
  refine .ite (fun _ => .count _ _ _) fun found => .ite (fun _ => .count _ _ _) fun _ => .ite (fun _ => .keepPending _ _ _) fun _ => ?_
  exact .applyUpdate _ _ _ ((State.checkBody_visible (by simpa using found) i).trans seen)

theorem Kept.opUpdate (l : LineId) (f : RxFrame) (s : State) : Kept s (s.opUpdate l f) := by
  unfold State.opUpdate
  refine .classified (fun n k t => ?_) s
  split
  · rename_i found
    exact .updateFound l f (State.visible_of_lookup found)
  · rename_i unknown
    unfold State.updateUnknown
    exact .ite (fun _ => .learn l f n (State.keyFree_of_lookup unknown)) fun _ => .count _ _ _

theorem Kept.queryFound (l : LineId) (f : RxFrame) (i : Nat) (s : State) : Kept s (s.queryFound l f i) := by
  refine (Kept.checkBody (.line l) i s).trans (.ite (fun _ => .count _ _ _) fun _ => .ite (fun _ => .refl _) fun _ => ?_)
  exact .ite (fun _ => .modifyLine (LineState.bounded_offerReply _ _ _)) fun _ => .count _ _ _

theorem Kept.opQuery (l : LineId) (f : RxFrame) (s : State) : Kept s (s.opQuery l f) :=
  .classified (fun n k t => by
    split
    · exact .queryFound _ _ _ _
    · exact .count _ _ _) s

theorem Kept.withdrawFound (l : LineId) (f : RxFrame) (i : Nat) (s : State) : Kept s (s.withdrawFound l f i) := by
  refine .ite (fun _ => (Kept.checkBody (.line l) i s).trans ?_) fun _ => .count _ _ _
  exact .ite (fun _ => .count _ _ _) fun _ => .ite (fun _ => .retireWith _ _ _) fun _ => .count _ _ _

theorem Kept.opWithdraw (l : LineId) (f : RxFrame) (s : State) : Kept s (s.opWithdraw l f) :=
  .classified (fun n k t => by
    split
    · exact .withdrawFound _ _ _ _
    · exact .count _ _ _) s

theorem Kept.restartStep (l : LineId) (s : State) : Kept s (s.restartStep l) := by
  refine .ite (fun granted => ?_) fun _ => .refl s
  simp only [Bool.and_eq_true, decide_eq_true_eq] at granted
  have retired : ∀ t : State, Kept t (t.retireAll (Slot.learnedFrom l) (.evicted .lineRestart)) := fun t => .retireAll _ _ t
  have ended : ∀ t : State, Kept t (t.modifyLine l fun ln => { ln with restartRequest := false }) := fun t => .modifyLine id
  exact ((Kept.grantLine granted.1).trans (retired _)).trans (ended _)

/-! ## Every command -/

/-- The layout that SET_LAYOUT's arguments name covers the table (R15). -/
theorem decodeLayout_covers {b l e : Half} {y : Layout} (h : decodeLayout b l e = some y) : y.b + y.l + y.e = 512 := by
  unfold decodeLayout at h
  split at h
  · rename_i sizes
    simp only [Bool.and_eq_true, beq_iff_eq] at sizes
    cases h
    exact sizes.2
  · cases h

/-- A table command other than SET_LAYOUT, read from its arguments. -/
theorem KeepsAll.tableCommand (n : Nat) {args : Option HostCommand} (h : ∀ y, args ≠ some (.setLayout y)) :
    KeepsAll (Machine.whilePowered (Machine.hostCommand n inService args Machine.requestEngine)) :=
  .hostCommand n inService fun c e t => .requestEngine (fun y is => absurd (e.trans (by rw [is])) (h y)) t

/-- An argument decoded as one command is no other. -/
theorem map_ne_setLayout {α : Type} {f : α → HostCommand} (h : ∀ a y, f a ≠ .setLayout y) (args : Option α) (y : Layout) :
    args.map f ≠ some (.setLayout y) := by
  cases args with
  | none => simp
  | some a => simpa using h a y

/-- CREATE's arguments stand for no SET_LAYOUT. -/
theorem decodeCreate_ne_setLayout (region : Byte) (key : KeyArg) (policy : PolicyArg) (y : Layout) :
    decodeCreate region key policy ≠ some (.setLayout y) := by
  intro e
  unfold decodeCreate at e
  simp only [Option.bind_eq_bind] at e
  split at e
  · simp [Option.bind_eq_some_iff] at e
  · split at e <;> simp [Option.bind_eq_some_iff] at e

/-- Every command answers a next state, and every invariant is kept from the one to the other. -/
theorem keepsAll_exec (c : Instr) : KeepsAll (exec c) := by
  cases c with
  | powerOnReset => exact keepsAll_powerOnReset
  | pinReset => exact keepsAll_pinReset
  | resetNRelease => exact keepsAll_resetNRelease
  | startupComplete => exact keepsAll_startupComplete
  | upset i => exact .whilePowered fun _ => .modifySlot (.of_same rfl rfl rfl rfl)
  | status n => exact .whilePowered (.statusTransaction n)
  | result n => exact .whilePowered (.resultTransaction n)
  | discardedTransaction bytes n => exact .whilePowered (.discardTransaction bytes n)
  | tableCommandOperation => exact .whilePowered .commandOperation
  | create region key policy => exact .tableCommand 17 (decodeCreate_ne_setLayout region key policy)
  | find key => exact .tableCommand 7 (map_ne_setLayout (fun _ _ => HostCommand.noConfusion) _)
  | read h => exact .tableCommand 3 (map_ne_setLayout (fun _ _ => HostCommand.noConfusion) _)
  | write h v now => exact .tableCommand 13 fun y e => by simp [decodeWrite, Option.bind_eq_some_iff] at e
  | modify h p => exact .tableCommand 12 fun y e => by simp [decodeModify, Option.bind_eq_some_iff] at e
  | retire h => exact .tableCommand 3 (map_ne_setLayout (fun _ _ => HostCommand.noConfusion) _)
  | hold h limit => exact .tableCommand 4 fun y e => by simp [decodeHold, Option.bind_eq_some_iff] at e
  | release h choice => exact .tableCommand 4 fun y e => by simp [decodeRelease, Option.bind_eq_some_iff] at e
  | setLayout b l e =>
    refine .hostCommand 6 inConfig fun c named t => .requestEngine (fun y is => ?_) t
    obtain ⟨z, decoded, rfl⟩ := Option.map_eq_some_iff.1 named
    cases is
    exact decodeLayout_covers decoded
  | purge r l f t => exact .hostCommand 4 inService fun f _ => .startPurge f
  | purgeVisit => exact .whilePowered .purgeStep
  | setClass fields => exact .hostCommand 15 inService fun _ _ _ => .settings rfl rfl rfl rfl rfl rfl rfl rfl
  | setMask n m => exact .hostCommand 4 inService fun _ _ _ => .settings rfl rfl rfl rfl rfl rfl rfl rfl
  | readClass c n => exact .hostCommand 2 inService fun _ _ _ => .complete _ _ _
  | commitClasses => exact .hostCommand 0 inService fun _ _ => .commitClasses
  | setShares f w => exact .hostCommand 2 inConfig fun _ e => .setShares e
  | setLine fields => exact .hostCommand 13 inService fun a _ => .setLineSettings a.1 a.2
  | readLine l => exact .hostCommand 1 inService fun _ _ _ => .complete _ _ _
  | readCounters l c => exact .hostCommand 2 inService fun a _ => .readCounters a.1 a.2
  | lineHold l d r => exact .hostCommand 4 inTraffic fun a _ => .lineHold a.1 a.2.1 a.2.2
  | lineAbort l => exact .hostCommand 1 inService fun l _ => .lineAbort l
  | setTiming p e => exact .hostCommand 3 inConfig fun _ _ _ => .settings rfl rfl rfl rfl rfl rfl rfl rfl
  | readTiming => exact .hostCommand 0 inService fun _ _ _ => .complete _ _ _
  | popNotice => exact .hostCommand 0 inService fun _ _ => .popNotice
  | scanMissed i => exact .hostCommand 2 inService fun i _ => .scanMissed i
  | setNotice t h => exact .hostCommand 2 inService fun _ _ _ => .settings rfl rfl rfl rfl rfl rfl rfl rfl
  | setRoutes r => exact .hostCommand 7 inService fun _ _ _ => .settings rfl rfl rfl rfl rfl rfl rfl rfl
  | clearConditions f => exact .hostCommand 1 inService fun _ _ _ => .settings rfl rfl rfl rfl rfl rfl rfl rfl
  | readFault => exact .hostCommand 0 inService fun _ _ _ => .complete _ _ _
  | clearFault => exact .hostCommand 0 inService fun _ _ _ => .settings rfl rfl rfl rfl rfl rfl rfl rfl
  | requestMode m => exact .hostCommand 1 inAnyMode fun m _ => .requestMode m
  | reset => exact .hostCommand 0 inAnyMode fun _ _ _ =>
      .of_registers rfl rfl id id id (fun h => ⟨h.1, fun _ e => by cases e⟩) id rfl
  | softReset => exact .whilePowered .softResetStep
  | immediateTransition => exact .whilePowered .immediateStep
  | drainStart => exact .whilePowered .drainStep
  | drainEnd => exact .whilePowered .drainEndStep
  | wakeEvent l => exact .whilePowered (.wake l)
  | resumeComplete => exact .whilePowered .resumeStep
  | tick => exact .whilePowered .tickStep
  | sweepVisit => exact .whilePowered .sweepStep
  | update l => exact .whilePowered (.frameOperation .opUpdate l)
  | query l => exact .whilePowered (.frameOperation .opQuery l)
  | withdraw l => exact .whilePowered (.frameOperation .opWithdraw l)
  | restartPurge l => exact .whilePowered (.restartStep l)
  | noticeHoldOffExpiry => exact .whilePowered .holdOffOver
  | dataFrameDelivery l => exact .whilePowered (.deliverIf _ l)
  | pause l => exact .whilePowered (.deliverIf _ l)
  | resume l => exact .whilePowered (.deliverIf _ l)
  | pauseDeadlineExpiry l => exact .whilePowered (.pauseExpiry l)
  | badFrame l w => exact .whilePowered (.badFrameStep l w)
  | truncatedFrame l => exact .whilePowered fun _ => .modifyLine (LineState.within_truncate _).bounded
  | overlongFrame l => exact .whilePowered fun _ => .modifyLine (LineState.within_overlong _).bounded
  | lineBreak l => exact .whilePowered (.breakStep l)
  | receiverIdleGap l => exact .whilePowered (.idleGap l)
  | frameStart l => exact .whilePowered (.startStep l)
  | frameSent l => exact .whilePowered (.sentStep l)
  | collision l => exact .whilePowered (.collisionStep l)
  | backoffRetry l => exact .whilePowered (.retryStep l)
  | lineHoldEnd l => exact .whilePowered (.holdEnd l)
  | characterReceived l w => exact .whilePowered (.hear l w)

/-- Every step keeps every invariant: by the command at the front of the queue, or by the millisecond (log 4). -/
theorem kept_of_step {s t : State} (moved : step s = .next t) :
    ∃ rest, Kept { s with pending := rest } t := by
  unfold step at moved
  split at moved
  · rename_i c rest _
    obtain ⟨u, answered, kept⟩ := keepsAll_exec c { s with pending := rest }
    rw [answered] at moved
    cases moved
    exact ⟨rest, kept⟩
  · obtain ⟨u, answered, kept⟩ := KeepsAll.whilePowered Kept.millisecond s
    rw [answered] at moved
    cases moved
    exact ⟨s.pending, kept⟩

/-! ## The invariants -/

/-- Settles O56: R13 as one of the invariants that every step keeps. -/
theorem everyStepKeepsKeysApart : Obligations.EveryStepKeepsKeysApart := by
  unfold Obligations.EveryStepKeepsKeysApart
  intro s t apart moved
  obtain ⟨rest, kept⟩ := kept_of_step moved
  exact kept.keys apart

/-- Settles O57: the notices of a posting and the lines' queues as two of the invariants that every step keeps. -/
theorem everyStepKeepsTheQueuesBounded : Obligations.EveryStepKeepsTheQueuesBounded := by
  unfold Obligations.EveryStepKeepsTheQueuesBounded
  refine ⟨fun s t bounded moved => ?notices, fun s t bounded moved => ?queues⟩ <;> obtain ⟨rest, kept⟩ := kept_of_step moved
  case notices => exact kept.notices bounded
  case queues => exact kept.queues bounded

/-- Settles O58: the arbiter's ranges and the layout as two of the invariants that every step keeps. -/
theorem everyStepKeepsTheArbiterInRange : Obligations.EveryStepKeepsTheArbiterInRange := by
  unfold Obligations.EveryStepKeepsTheArbiterInRange
  refine ⟨fun s t inRange moved => ?arbiter, fun s t covers moved => ?layout⟩ <;> obtain ⟨rest, kept⟩ := kept_of_step moved
  case arbiter => exact kept.arbiter inRange
  case layout => exact kept.layout covers

/-- Settles O59: the hold list and the values as two of the invariants that every step keeps. -/
theorem everyStepKeepsHoldsAndValues : Obligations.EveryStepKeepsHoldsAndValues := by
  unfold Obligations.EveryStepKeepsHoldsAndValues
  refine ⟨fun s t agree moved => ?holds, fun s t agree moved => ?values⟩ <;> obtain ⟨rest, kept⟩ := kept_of_step moved
  case holds => exact kept.holds agree
  case values => exact kept.values agree

/-- Settles O60: the mode controller's registers as one of the invariants that every step keeps. -/
theorem everyStepKeepsTheModesInAgreement : Obligations.EveryStepKeepsTheModesInAgreement := by
  unfold Obligations.EveryStepKeepsTheModesInAgreement
  intro s t agree moved
  obtain ⟨rest, kept⟩ := kept_of_step moved
  exact kept.modes agree

/-- Settles O3: the next state and the queue, with the invariants, of every command. -/
theorem noCommandStopsOrTouchesTheQueue : Obligations.NoCommandStopsOrTouchesTheQueue := by
  unfold Obligations.NoCommandStopsOrTouchesTheQueue
  intro c s
  obtain ⟨t, answered, kept⟩ := keepsAll_exec c s
  exact ⟨t, answered, kept.pending⟩

end Sys2Proof.Machine
end

section
/-! PROOFS. The block as a whole and the port: a step, a millisecond, the resets, what RESET_N freezes, STATUS and RESULT, and the
transactions and commands that the part turns away. -/

namespace Sys2Proof.Machine

/-! ## Steps -/

/-- Settles O1: by the definition of a step. -/
theorem stepRunsTheFrontCommand : Obligations.StepRunsTheFrontCommand := by
  unfold Obligations.StepRunsTheFrontCommand
  intro c rest s waiting
  unfold step
  rw [waiting]

/-- With no command waiting a step is a millisecond, if the part has power (log 4). -/
theorem step_of_empty {s : State} (empty : s.pending = []) : step s = whilePowered State.millisecond s := by
  unfold step
  rw [empty]

/-- The state after a millisecond's notices have waited. -/
def State.noticesWaited (s : State) : State := { s with notices := s.notices.map (Notice.wait 1) }

/-- A line whose hold drives no break has none to count down. -/
theorem LineState.countHold_of_quiet (active : Bool) {ln : LineState} (quiet : ∀ d r, ln.hold ≠ .breaking d r) :
    ln.countHold active = ln := by
  unfold LineState.countHold
  split
  · exact absurd ‹_› (quiet _ _)
  · rfl

theorem LineState.drivesBreak_eq_false_iff {ln : LineState} : ln.drivesBreak = false ↔ ∀ d r, ln.hold ≠ .breaking d r := by
  unfold LineState.drivesBreak
  cases ln.hold <;> simp

/-- A continuous break has no countdown (R79). -/
theorem LineState.countHold_continuous (active : Bool) {ln : LineState} {r : Bool} (hold : ln.hold = .breaking 65535 r) :
    ln.countHold active = ln := by
  unfold LineState.countHold
  rw [hold]
  exact if_pos rfl

/-- A counted break with more than a millisecond left counts down (R79). -/
theorem LineState.countHold_counts (active : Bool) {ln : LineState} {d : Half} {r : Bool} (hold : ln.hold = .breaking d r)
    (counted : d ≠ 65535) (left : 1 < d.toNat) : ln.countHold active = { ln with hold := .breaking (d - 1) r } := by
  unfold LineState.countHold
  rw [hold]
  dsimp only
  rw [if_neg counted, if_neg (by omega)]

/-- The end of a driven break (R80). -/
theorem LineState.endBreak_of_breaking (active : Bool) {ln : LineState} {d : Half} {r : Bool} (hold : ln.hold = .breaking d r) :
    ln.endBreak active =
      { ln with hold := .off, rx := if active then .waiting else .stopped, restartRequest := ln.restartRequest || r } := by
  unfold LineState.endBreak
  rw [hold]

/-- A counted break ends with its last millisecond (R80). -/
theorem LineState.countHold_ends (active : Bool) {ln : LineState} {d : Half} {r : Bool} (hold : ln.hold = .breaking d r)
    (last : d.toNat ≤ 1) : ln.countHold active =
      { ln with hold := .off, rx := if active then .waiting else .stopped, restartRequest := ln.restartRequest || r } := by
  have counted : d ≠ 65535 := fun e => by
    subst e
    exact absurd last (by decide)
  rw [← LineState.endBreak_of_breaking active hold]
  unfold LineState.countHold
  rw [hold]
  dsimp only
  rw [if_neg counted, if_pos last]

/-- The lines after a millisecond of their holds (R79, R80). -/
def State.holdsCounted (s : State) : State := s.mapLines fun l ln => ln.countHold (s.lineActive l)

theorem State.millisecond_eq (s : State) : s.millisecond = s.noticesWaited.holdsCounted.countPrescale := rfl

theorem State.line_holdsCounted (s : State) (l : LineId) :
    s.noticesWaited.holdsCounted.line l = (s.line l).countHold (s.lineActive l) :=
  State.line_mapLines s.noticesWaited (fun l ln => ln.countHold (s.noticesWaited.lineActive l)) l

theorem State.holdsCounted_of_quiet {s : State} (quiet : ∀ l, (s.line l).drivesBreak = false) : s.holdsCounted = s :=
  State.mapLines_eq_self _ _ fun l => LineState.countHold_of_quiet _ (LineState.drivesBreak_eq_false_iff.1 (quiet l))

/-- The prescale rests where the tick counter does (R116). -/
theorem State.countPrescale_frozen {s : State} (frozen : s.takesFrames = false) : s.countPrescale = s := by
  simp [State.countPrescale, frozen]

theorem State.countPrescale_counts {s : State} (runs : s.takesFrames = true) (room : s.prescale + 1 < s.tickPeriod) :
    s.countPrescale = { s with prescale := s.prescale + 1 } := by
  rw [State.countPrescale, if_pos runs, if_neg (by omega)]

theorem State.countPrescale_ticks {s : State} (runs : s.takesFrames = true) (full : s.tickPeriod ≤ s.prescale + 1) :
    s.countPrescale = s.tickNow := by
  rw [State.countPrescale, if_pos runs, if_pos full]

/-- A millisecond that brings no tick counts the prescale where the tick counter runs (R116). -/
theorem State.countPrescale_quiet {s : State} (quiet : s.takesFrames = false ∨ s.prescale + 1 < s.tickPeriod) :
    s.countPrescale = { s with prescale := if s.takesFrames then s.prescale + 1 else s.prescale } := by
  cases frozen : s.takesFrames with
  | false => rw [State.countPrescale_frozen frozen]; rfl
  | true =>
    rw [State.countPrescale_counts frozen (quiet.resolve_left (by simp [frozen]))]
    rfl

/-- TICK in a mode in which frames are taken (R116). -/
theorem exec_tick_runs {s : State} (released : s.resetHeld = false) (runs : s.takesFrames = true) : exec .tick s = .next s.tickNow := by
  have stepped : exec .tick s = .next s.tickStep := whilePowered_released _ released
  rw [stepped, State.tickStep, if_pos runs]

/-- Settles O2: by the level of RESET_N, then by whether a break is driven and whether the tick period fills. -/
theorem aStepOnAnEmptyQueueIsOneMillisecond : Obligations.AStepOnAnEmptyQueueIsOneMillisecond := by
  unfold Obligations.AStepOnAnEmptyQueueIsOneMillisecond
  intro s empty
  rw [step_of_empty empty]
  refine ⟨fun held => whilePowered_held _ held, fun released quiet => ?noBreak, fun released still => ?noTick⟩ <;>
    rw [whilePowered_released _ released, State.millisecond_eq]
  case noBreak =>
    rw [State.holdsCounted_of_quiet (s := s.noticesWaited) quiet]
    refine ⟨fun frozen => ?_, fun runs room => ?_, fun runs full => ?_⟩
    · rw [State.countPrescale_frozen (s := s.noticesWaited) frozen]
      rfl
    · rw [State.countPrescale_counts (s := s.noticesWaited) runs room]
      rfl
    · rw [State.countPrescale_ticks (s := s.noticesWaited) runs full]
      exact (exec_tick_runs (s := s.noticesWaited) released runs).symm
  case noTick =>
    rw [State.countPrescale_quiet (s := s.noticesWaited.holdsCounted) still]
    refine ⟨_, rfl, rfl, fun l => ?_⟩
    have line := s.line_holdsCounted l
    exact ⟨fun quiet => line.trans (LineState.countHold_of_quiet _ quiet),
      fun _ hold => line.trans (LineState.countHold_continuous _ hold),
      fun _ _ hold counted left => line.trans (LineState.countHold_counts _ hold counted left),
      fun _ _ hold last => line.trans (LineState.countHold_ends _ hold last)⟩

/-! ## Resets -/

/-- Every command but the three of the reset pins is an event that needs the part released (R177). -/
theorem exec_eq_whilePowered (c : Instr) (supply : c ≠ .powerOnReset) (pin : c ≠ .pinReset) (release : c ≠ .resetNRelease) :
    ∃ f : State → State, ∀ s, exec c s = whilePowered f s := by
  cases c with
  | powerOnReset => exact absurd rfl supply
  | pinReset => exact absurd rfl pin
  | resetNRelease => exact absurd rfl release
  | _ => exact ⟨_, fun _ => rfl⟩

/-- Settles O4: every other command is an event of a released part. -/
theorem nothingHappensWhileResetIsHeld : Obligations.NothingHappensWhileResetIsHeld := by
  unfold Obligations.NothingHappensWhileResetIsHeld
  intro c s held supply pin release
  obtain ⟨f, event⟩ := exec_eq_whilePowered c supply pin release
  rw [event, whilePowered_held f held]

/-- Settles O5: the registers by their values, the invariants by the table of the reset state. -/
theorem resetHasThePowerOnValuesAndTheInvariants : Obligations.ResetHasThePowerOnValuesAndTheInvariants := by
  unfold Obligations.ResetHasThePowerOnValuesAndTheInvariants
  exact ⟨rfl, rfl, rfl, rfl, rfl, State.reset_slotAt, rfl, rfl, rfl, rfl, State.reset_line, rfl, rfl, rfl, rfl, rfl, rfl, rfl, rfl, rfl,
    rfl, rfl, rfl, rfl, rfl, rfl, rfl, layoutCovers_reset, keysNeverOverlap_of_reset State.reset_slotAt, noticesBounded_of_empty rfl,
    arbiterInRange_reset, holdsAgree_of_reset State.reset_slotAt rfl, modesAgree_reset, queuesBounded_reset,
    valuesAgree_of_reset State.reset_slotAt⟩

/-- Settles O6: each reset by its own row, the release and the end of start-up where they act. -/
theorem resetsAndStartUp : Obligations.ResetsAndStartUp := by
  unfold Obligations.ResetsAndStartUp
  refine fun s => ⟨rfl, rfl, fun held => ?release, fun released starting => ?startup⟩
  case release =>
    show Host.Outcome.next (if s.resetHeld then { s.hardReset with resetHeld := false } else s) = _
    rw [if_pos held]
    rfl
  case startup =>
    have done : exec .startupComplete s = .next (if s.mode = .starting then s.startupDone else s) := whilePowered_released _ released
    rw [done, if_pos starting]
    rfl

/-! ## STATUS and RESULT -/

theorem exec_status (count : Nat) {s : State} (released : s.resetHeld = false) :
    exec (.status count) s = .next (s.statusTransaction count) := whilePowered_released _ released

theorem exec_result (count : Nat) {s : State} (released : s.resetHeld = false) :
    exec (.result count) s = .next (s.resultTransaction count) := whilePowered_released _ released

/-- An output of which no more bytes are asked than it has needs no zeros. -/
theorem padded_of_le {n : Nat} {bytes : List Byte} (enough : n ≤ bytes.length) : padded n bytes = bytes.take n :=
  List.take_append_of_le_length enough

theorem State.statusTransaction_taken {count : Nat} (s : State) (some_ : 1 ≤ count) (fits : count ≤ 5) :
    s.statusTransaction count = { s with refused := false, miso := (s.statusByte :: s.statusWord).take count } := by
  rw [State.statusTransaction, if_neg (by omega), if_pos fits, State.statusOut, padded_of_le (by simpa [State.statusWord] using fits)]
  rfl

theorem State.resultTransaction_taken {count : Nat} (s : State) (enough : 2 ≤ count) :
    s.resultTransaction count = { s with refused := false, slot := s.slot.afterResult, miso := s.resultOut count } := by
  rw [State.resultTransaction, if_neg (by omega), if_pos enough]
  rfl

/-- Settles O7: STATUS by its count, RESULT by whether the slot is DONE. -/
theorem statusAndResultTransactions : Obligations.StatusAndResultTransactions := by
  unfold Obligations.StatusAndResultTransactions
  intro count s released
  rw [exec_status count released, exec_result count released]
  refine ⟨fun some_ fits => by rw [State.statusTransaction_taken s some_ fits], fun enough code body done => ?done,
    fun enough notDone => ?other⟩ <;> rw [State.resultTransaction_taken s enough]
  case done =>
    rw [State.resultOut, done]
    rfl
  case other =>
    have kept : s.slot.afterResult = s.slot ∧ s.slot.resultBytes = [ResultCode.noResult.code] := by
      cases slot : s.slot with
      | done code body => exact absurd slot (notDone code body)
      | idle => exact ⟨rfl, rfl⟩
      | pending c => exact ⟨rfl, rfl⟩
    rw [State.resultOut, kept.1, kept.2]
    rfl

/-! ## What the part turns away -/

/-- What is clocked out over a discarded transaction is a record of the output alone (logs 8 and 9). -/
theorem State.discardOut_writes (clocked : List Byte) (s : State) :
    ∃ out n, s.discardOut clocked = { s with miso := out, freeCount := n } := by
  unfold State.discardOut
  split
  · exact ⟨s.miso, s.freeCount, rfl⟩
  · repeat' split
    all_goals exact ⟨_, _, rfl⟩

theorem State.turnsAway_iff {clocked : List Byte} {strayBits : Nat} {s : State} : s.turnsAway clocked strayBits = true ↔
    strayBits ≠ 0 ∨ fitsType clocked = false ∨ (clocked.head? = some 0xA1 ∧ s.portClosed = true) := by
  simp [State.turnsAway, or_assoc]

/-- Settles O8: such a transaction is turned away, whatever its type. -/
theorem transactionsTurnedAwaySetOnlyTheRefusedBit : Obligations.TransactionsTurnedAwaySetOnlyTheRefusedBit := by
  unfold Obligations.TransactionsTurnedAwaySetOnlyTheRefusedBit
  intro clocked strayBits s released bytes away
  obtain ⟨out, n, written⟩ := s.discardOut_writes clocked
  have event : exec (.discardedTransaction clocked strayBits) s = .next (s.discardTransaction clocked strayBits) :=
    whilePowered_released _ released
  rw [event, State.discardTransaction, if_neg bytes, if_pos (State.turnsAway_iff.2 away), written]
  exact ⟨out, n, rfl⟩

theorem State.portClosed_of_busy {s : State} (busy : s.mode = .starting ∨ ∃ h, s.slot = .pending h) : s.portClosed = true := by
  rcases busy with starting | ⟨h, waiting⟩
  · simp [State.portClosed, starting]
  · simp [State.portClosed, waiting, CommandSlot.isPending]

/-- Settles O9: a closed port refuses before any block acts. -/
theorem aClosedPortRefusesEveryCommand : Obligations.AClosedPortRefusesEveryCommand := by
  unfold Obligations.AClosedPortRefusesEveryCommand
  intro c s hosts released busy
  obtain ⟨α, n, allowed, args, run, event, -⟩ := exec_hostCommand c hosts
  rw [event, whilePowered_released _ released, hostCommand_refused n allowed args run (State.portClosed_of_busy busy)]
  exact ⟨_, rfl⟩

/-- Settles O10: STANDBY is no mode of any command but REQUEST_MODE and RESET. -/
theorem standbyAnswersWrongMode : Obligations.StandbyAnswersWrongMode := by
  unfold Obligations.StandbyAnswersWrongMode
  intro c s hosts notRequest notReset isOpen standby
  obtain ⟨released, opened⟩ := State.portOpen_iff.1 isOpen
  obtain ⟨α, n, allowed, args, run, event, barred⟩ := exec_hostCommand c hosts
  have notAllowed : allowed s.mode = false := by rw [standby]; exact barred notRequest notReset
  rw [event, whilePowered_released _ released, hostCommand_wrongMode n args run opened notAllowed]
  exact ⟨_, rfl⟩

end Sys2Proof.Machine
end

section
/-! PROOFS. The record commands with a free engine: CREATE, FIND, READ, WRITE, MODIFY, RELEASE, what each refuses, and what each does where
its body read finds an error. -/

namespace Sys2Proof.Machine

/-! ## Table commands at the port -/

/-- The port of a released part in service takes a command whose arguments are in range. -/
theorem exec_taken {α : Type} {c : Instr} {n : Nat} {allowed : Mode → Bool} {args : Option α} {run : α → State → State} {s : State} {a : α}
    (event : ∀ t, exec c t = whilePowered (hostCommand n allowed args run) t) (isOpen : s.portOpen = true) (here : allowed s.mode = true)
    (decoded : args = some a) : exec c s = .next (run a (s.taken n)) := by
  obtain ⟨released, opened⟩ := State.portOpen_iff.1 isOpen
  rw [event, whilePowered_released _ released, decoded, hostCommand_run n a run opened here]

/-- The port answers BAD_ARGUMENT for arguments out of range (R144). -/
theorem exec_badArgument {α : Type} {c : Instr} {n : Nat} {allowed : Mode → Bool} {args : Option α} {run : α → State → State} {s : State}
    (event : ∀ t, exec c t = whilePowered (hostCommand n allowed args run) t) (isOpen : s.portOpen = true) (here : allowed s.mode = true)
    (bad : args = none) : exec c s = .next (s.answered n .badArgument []) := by
  obtain ⟨released, opened⟩ := State.portOpen_iff.1 isOpen
  rw [event, whilePowered_released _ released, bad, hostCommand_badArgument n run opened here]

theorem State.servesHost_open {s : State} (served : s.servesHost = true) : s.portOpen = true ∧ inService s.mode = true := by
  obtain ⟨released, opened, here⟩ := State.servesHost_iff.1 served
  exact ⟨State.portOpen_iff.2 ⟨released, opened⟩, here⟩

/-- A served table command that a free engine carries out is its operation on `atEngine`. -/
theorem exec_operation {i : Instr} {n : Nat} {args : Option HostCommand} {c : HostCommand} {s : State}
    (event : ∀ t, exec i t = whilePowered (hostCommand n inService args requestEngine) t) (served : s.servesHost = true)
    (free : s.engineFree = true) (decoded : args = some c) : exec i s = .next ((s.atEngine n c).tableOperation c) := by
  obtain ⟨released, opened, here⟩ := State.servesHost_iff.1 served
  rw [event, whilePowered_released _ released, decoded, hostCommand_atEngine n c opened here free]

/-- A table command that goes on from a corrected body leaves what it leaves of the corrected state, but for the bytes clocked out (R54). -/
theorem exec_operation_corrected {i : Instr} {n : Nat} {args : Option HostCommand} {c : HostCommand} {j : Nat} {s : State}
    (event : ∀ t, exec i t = whilePowered (hostCommand n inService args requestEngine) t) (served : s.servesHost = true)
    (free : s.engineFree = true) (decoded : args = some c) (blind : misoBlind (State.tableOperation c))
    (again : (s.atEngine n c).tableOperation c = ((s.atEngine n c).corrected .command j).tableOperation c) :
    ∃ t, exec i (s.corrected .command j) = .next t ∧ exec i s = .next { t with miso := s.commandOut n } := by
  refine ⟨_, exec_operation event (s := s.corrected .command j) served free decoded, ?_⟩
  rw [exec_operation event served free decoded, again, State.atEngine_corrected, blind]

/-! ## CREATE and FIND -/

theorem exec_create (region : Byte) (k : KeyArg) (a : PolicyArg) (s : State) :
    exec (.create region k a) s = whilePowered (hostCommand 17 inService (decodeCreate region k a) requestEngine) s := rfl

theorem decodeCreate_bound {k : KeyArg} {a : PolicyArg} {key : Key} {p : Policy} (hk : decodeKey k = some key)
    (hp : decodePolicy a = some p) : decodeCreate 1 k a = some (.create false key p) := by
  simp [decodeCreate, hk, hp]

theorem decodeCreate_exported {k : KeyArg} {a : PolicyArg} {key : Key} {p : Policy} {x : LineSet × Fin 4}
    (hk : decodeKey k = some key) (hp : decodePolicy a = some p) (hx : decodeExport p = some x) :
    decodeCreate 3 k a = some (.create true key p) := by
  simp [decodeCreate, hk, hp, hx]

/-- CREATE in the lowest EMPTY slot of its region makes the record that `occupy` makes (R16). -/
theorem exec_create_new {region : Byte} {k : KeyArg} {a : PolicyArg} {exported : Bool} {key : Key} {p : Policy} {i : Nat} {s : State}
    (served : s.servesHost = true) (free : s.engineFree = true) (covers : s.layout.b + s.layout.l + s.layout.e = 512)
    (decoded : decodeCreate region k a = some (.create exported key p)) (unused : s.keyFree key = true) (inTable : i < 512)
    (isEmpty : (s.slotAt i).state = .empty) (here : s.layout.kindAt i = createdKind exported)
    (lowest : ∀ j < i, s.layout.kindAt j = createdKind exported → (s.slotAt j).state ≠ .empty) :
    exec (.create region k a) s = .next ((s.engineAnswered 17 .ok (handleBytes { slot := i, gen := (s.slotAt i).gen + 1 })).withSlot i
      (Slot.occupy .new (createdKind exported) key (createdBody exported p s.tick) (s.slotAt i))) := by
  have found : (s.atEngine 17 (.create exported key p)).firstEmpty (createdKind exported) = some i :=
    State.firstEmpty_of_lowest covers inTable here isEmpty lowest
  rw [exec_operation (exec_create region k a) served free decoded, State.tableOperation,
    State.opCreate_new (t := s.atEngine 17 (.create exported key p)) unused found inTable]
  rfl

/-- The body of an EXPORT record that CREATE makes (R16). -/
theorem createdBody_exported {p : Policy} {set : LineSet} {priority : Fin 4} (now : Tick) (hx : decodeExport p = some (set, priority)) :
    createdBody true p now = { Body.empty with
      stamp := now, limit := p.limit, owner := p.owner, updateNotice := p.updateNotice, edge := p.edge,
      period := p.period, lineSet := set, priority := priority, nextDue := now + p.period.setWidth 32 } := by
  unfold createdBody
  rw [hx]

/-- Settles O11: by the region, the bound one with no EXPORT fields, the EXPORT one with those decoded. -/
theorem createMakesANewRecord : Obligations.CreateMakesANewRecord := by
  unfold Obligations.CreateMakesANewRecord
  intro k a key p i s served free covers hk hp unused inTable isEmpty
  refine ⟨fun here lowest => ?bound, fun set priority hx here lowest => ?exported⟩
  case bound => exact exec_create_new served free covers (decodeCreate_bound hk hp) unused inTable isEmpty here lowest
  case exported =>
    rw [exec_create_new served free covers (decodeCreate_exported hk hp hx) unused inTable isEmpty here lowest, createdBody_exported _ hx]
    rfl

/-- Settles O12: by the port's check, then by whether the key is free. -/
theorem createIsRefused : Obligations.CreateIsRefused := by
  unfold Obligations.CreateIsRefused
  intro region k a s served
  obtain ⟨isOpen, here⟩ := State.servesHost_open served
  refine ⟨exec_badArgument (exec_create region k a) isOpen here, fun exported key p decoded free => ?_⟩
  rw [exec_operation (exec_create region k a) served free decoded, State.tableOperation]
  refine ⟨fun taken => ?inUse, fun unused covers full => ?full⟩
  case inUse => rw [State.opCreate_inUse (t := s.atEngine 17 (.create exported key p)) taken, State.atEngine_complete]
  case full =>
    have none : (s.atEngine 17 (.create exported key p)).firstEmpty (createdKind exported) = none := State.firstEmpty_none covers full
    rw [State.opCreate_full (t := s.atEngine 17 (.create exported key p)) unused none, State.atEngine_complete]

theorem exec_find (k : KeyArg) (s : State) :
    exec (.find k) s = whilePowered (hostCommand 7 inService ((decodeKey k).map HostCommand.find) requestEngine) s := rfl

/-- Settles O13: by the port's check, then by the lookup. -/
theorem findReportsTheLowestOverlap : Obligations.FindReportsTheLowestOverlap := by
  unfold Obligations.FindReportsTheLowestOverlap
  intro k s served
  obtain ⟨isOpen, here⟩ := State.servesHost_open served
  refine ⟨fun bad => exec_badArgument (exec_find k) isOpen here (by rw [bad]; rfl), fun key decoded free => ?_⟩
  rw [exec_operation (exec_find k) served free (c := .find key) (by rw [decoded]; rfl), State.tableOperation]
  refine ⟨fun unused => ?none, fun i inTable found lowest => ?some_⟩
  case none => rw [State.opFind_none (t := s.atEngine 7 (.find key)) unused, State.atEngine_complete]
  case some_ =>
    rw [State.opFind_some (t := s.atEngine 7 (.find key)) (State.lookup_of_lowest inTable found lowest)]
    rfl

/-! ## READ and upsets -/

theorem exec_read (h : HandleArg) (s : State) :
    exec (.read h) s = whilePowered (hostCommand 3 inService ((decodeHandle h).map HostCommand.read) requestEngine) s := rfl

/-- READ of a slot of the table by a free engine. -/
theorem exec_read_operation {h : HandleArg} {s : State} (served : s.servesHost = true) (free : s.engineFree = true)
    (inTable : h.slot.toNat < 512) : exec (.read h) s =
      .next ((s.atEngine 3 (.read { slot := h.slot.toNat, gen := h.gen })).opRead { slot := h.slot.toNat, gen := h.gen }) :=
  exec_operation (exec_read h) served free (c := .read _) (by rw [decodeHandle_of_lt inTable]; rfl)

/-- Settles O14: by whether the record is FAULTED. -/
theorem readReturnsTheRecordImage : Obligations.ReadReturnsTheRecordImage := by
  unfold Obligations.ReadReturnsTheRecordImage
  intro h s served free inTable named
  rw [exec_read_operation served free inTable]
  refine ⟨fun sound clean => ?image, fun faulted => ?directory⟩
  case image =>
    rw [State.opRead_ok (t := s.atEngine 3 (.read _)) named sound clean]
    rfl
  case directory =>
    rw [State.opRead_faulted (t := s.atEngine 3 (.read _)) named faulted]
    rfl

theorem exec_upset (i : Nat) {s : State} (released : s.resetHeld = false) :
    exec (.upset i) s = .next (s.withSlot i { s.slotAt i with integrity := (s.slotAt i).integrity.upset }) :=
  whilePowered_released _ released

theorem Integrity.upset_of_damaged {x : Integrity} (damaged : x ≠ .clean) : x.upset = .double := by
  cases x with
  | clean => exact absurd rfl damaged
  | single => rfl
  | double => rfl

/-- The operation of READ on a record with a single error: the image is that of the clean body (R54). -/
theorem State.opRead_corrected {t : State} {h : Handle} (current : t.isCurrent h = true) (sound : (t.slotAt h.slot).state ≠ .faulted)
    (inTable : h.slot < 512) (single : (t.slotAt h.slot).integrity = .single) :
    t.opRead h = (t.corrected .command h.slot).complete .ok (recordImage h.slot (t.slotAt h.slot) (t.holdOf h.slot)) := by
  unfold State.opRead
  rw [State.onRecord_run _ _ current sound, State.onBody_corrected _ _ single, State.slotAt_corrected _ inTable]
  rfl

/-- Settles O22: the upset by the integrity before it, the READ by the integrity that it finds. -/
theorem upsetsAndBodyReads : Obligations.UpsetsAndBodyReads := by
  unfold Obligations.UpsetsAndBodyReads
  intro h s released inTable
  refine ⟨fun clean => ?clean, fun damaged => ?damaged, fun served free named sound => ⟨fun single => ?single, fun double => ?double⟩⟩
  case clean => rw [exec_upset _ released, clean]; rfl
  case damaged => rw [exec_upset _ released, Integrity.upset_of_damaged damaged]
  case single =>
    rw [exec_read_operation served free inTable, State.opRead_corrected (t := s.atEngine 3 (.read _)) named sound inTable single,
      ← State.gen_of_names named]
    rfl
  case double =>
    have posts := State.postsAlike_post { slot := h.slot.toNat, gen := h.gen } .faulted
      (s := s.atEngine 3 (.read { slot := h.slot.toNat, gen := h.gen })) (t := s) ⟨rfl, rfl, rfl, fun _ => rfl⟩
    obtain ⟨notices, conditions, -, missed⟩ := posts
    have handle : (s.atEngine 3 (.read { slot := h.slot.toNat, gen := h.gen })).handleAt h.slot.toNat =
        { slot := h.slot.toNat, gen := h.gen } := State.handleAt_of_names named
    have lost := State.opRead_lost (s := s.atEngine 3 (.read { slot := h.slot.toNat, gen := h.gen })) inTable named sound double
    refine ⟨_, (exec_read_operation served free inTable).trans (congrArg _ lost), rfl, ?slot, fun j other => ?slots, rfl, ?notices,
      ?conditions, ?capture, fun l => ?lines⟩
    case slot =>
      refine (State.slotAt_lostRecord .command inTable).trans ?_
      rw [handle, missed]
      rfl
    case slots => exact State.slotAt_lostRecord_ne .command other
    case notices =>
      rw [← notices, ← handle]
      rfl
    case conditions =>
      rw [← conditions, ← handle]
      rfl
    case capture =>
      rw [← State.gen_of_names named]
      rfl
    case lines =>
      refine (State.line_lostRecord .command _ _ l).trans ?_
      rw [handle]
      rfl

/-! ## WRITE -/

theorem exec_write (h : HandleArg) (v : ValueArg) (now : Byte) (s : State) :
    exec (.write h v now) s = whilePowered (hostCommand 13 inService (decodeWrite h v now) requestEngine) s := rfl

theorem decodeBool_some {b : Byte} (h : b = 0 ∨ b = 1) : decodeBool b = some (decide (b = 1)) := by
  rcases h with rfl | rfl <;> rfl

theorem decodeWrite_inRange {h : HandleArg} {v : ValueArg} {now : Byte} {value : List Byte} (inTable : h.slot.toNat < 512)
    (hv : decodeValue v = some value) (bit : now = 0 ∨ now = 1) :
    decodeWrite h v now = some (.write { slot := h.slot.toNat, gen := h.gen } value (decide (now = 1))) := by
  simp [decodeWrite, decodeHandle_of_lt inTable, hv, decodeBool_some bit]

/-- A clean slot that is written keeps its integrity (R151). -/
theorem Slot.written_of_clean {x : Slot} (v : List Byte) (now : Tick) (clean : x.integrity = .clean) : x.written v now =
    { x with state := .fresh, body := { x.body with value := some v, stamp := now, source := .host } } := by
  unfold Slot.written
  rw [← clean]

/-- Settles O15: by the integrity of the body. -/
theorem writeSetsTheValue : Obligations.WriteSetsTheValue := by
  unfold Obligations.WriteSetsTheValue
  intro h v publishNow value s served free inTable named hv sound
  refine ⟨fun clean quiet => ?clean, fun single bit => ?single, fun double bit => ?double⟩
  case clean =>
    have bit : publishNow = 0 ∨ publishNow = 1 := quiet.imp id fun q => q.1
    have silent : ((s.slotAt h.slot.toNat).kind = some .exported && decide (publishNow = 1) && s.mode == .run) = false := by
      rcases quiet with rfl | ⟨rfl, other | elsewhere⟩
      · simp
      · simp [other]
      · simp [elsewhere]
    have written : exec (.write h v publishNow) s = .next ((s.engineAnswered 13 .ok []).withSlot h.slot.toNat
        ((s.slotAt h.slot.toNat).written value s.tick)) :=
      (exec_operation (exec_write h v publishNow) served free (decodeWrite_inRange inTable hv bit)).trans
        (congrArg _ (State.opWrite_quiet (t := s.atEngine 13 (.write _ _ _)) named sound clean silent))
    rw [written, Slot.written_of_clean _ _ clean]
  case single =>
    exact exec_operation_corrected (exec_write h v publishNow) served free (decodeWrite_inRange inTable hv bit)
      (misoBlind_opWrite _ _ _) (State.opWrite_corrected value _ inTable named sound single)
  case double =>
    rw [exec_operation (exec_write h v publishNow) served free (decodeWrite_inRange inTable hv bit), State.tableOperation,
      State.opWrite_lost (s := s.atEngine 13 (.write _ _ _)) value _ inTable named sound double, State.atEngine_lost]

/-- Settles O16: the slot as WRITE leaves it, each line as the publication leaves it. -/
theorem writeWithPublishNowPublishes : Obligations.WriteWithPublishNowPublishes := by
  unfold Obligations.WriteWithPublishNowPublishes
  intro h v value s served free inTable named hv sound clean exported run
  have publishes : ((s.slotAt h.slot.toNat).kind = some .exported && true && s.mode == .run) = true := by simp [exported, run]
  rw [exec_operation (exec_write h v 1) served free (decodeWrite_inRange inTable hv (.inr rfl)), State.tableOperation,
    show decide ((1 : Byte) = 1) = true from rfl,
    State.opWrite_publish (t := s.atEngine 13 (.write _ _ _)) named sound clean publishes]
  refine ⟨_, rfl, ?rest, fun l => ?line⟩
  case rest =>
    rw [← Slot.written_of_clean value s.tick clean]
    rfl
  case line =>
    have slot : ((s.atEngine 13 (.write { slot := h.slot.toNat, gen := h.gen } value true)).modifySlot h.slot.toNat
        (Slot.written value s.tick)).slotAt h.slot.toNat = (s.slotAt h.slot.toNat).written value s.tick :=
      State.slotAt_modifySlot_self _ _ inTable
    refine (State.line_publish _ _ l).trans ?_
    unfold State.publishedOn State.handleAt
    rw [show (s.atEngine 13 (.write { slot := h.slot.toNat, gen := h.gen } value true)).tick = s.tick from rfl, slot]
    rw [show ((s.slotAt h.slot.toNat).written value s.tick).gen = h.gen from State.gen_of_names named]
    rfl

/-! ## MODIFY -/

theorem exec_modify (h : HandleArg) (a : PolicyArg) (s : State) :
    exec (.modify h a) s = whilePowered (hostCommand 12 inService (decodeModify h a) requestEngine) s := rfl

theorem decodeModify_inRange {h : HandleArg} {a : PolicyArg} {p : Policy} (inTable : h.slot.toNat < 512) (hp : decodePolicy a = some p) :
    decodeModify h a = some (.modify { slot := h.slot.toNat, gen := h.gen } p) := by
  simp [decodeModify, decodeHandle_of_lt inTable, hp]

/-- A record that is no EXPORT record has no EXPORT fields for MODIFY to set (R152). -/
theorem modifiedSet_of_other {kind : Option Kind} (p : Policy) (other : kind ≠ some .exported) : modifiedSet kind p = none :=
  if_neg other

theorem modifiedSet_exported {kind : Option Kind} {p : Policy} (exported : kind = some .exported) :
    modifiedSet kind p = decodeExport p := if_pos exported

/-- What MODIFY makes of an EXPORT record's body (R152). -/
theorem modifiedBody_exported (p : Policy) (set : LineSet) (priority : Fin 4) (now : Tick) (b : Body) :
    modifiedBody p (some (set, priority)) now b =
      { b with
        limit := p.limit, owner := p.owner, updateNotice := p.updateNotice, edge := p.edge, lineSet := set, priority := priority,
        period := p.period, nextDue := if p.period = b.period then b.nextDue else now + p.period.setWidth 32 } := by
  unfold modifiedBody
  dsimp only
  by_cases same : p.period = b.period
  · rw [if_pos same, if_pos same, same]
  · rw [if_neg same, if_neg same]

/-- The lines after a MODIFY: the lines that it leaves out lose the record's PUBLISH entries (R137). -/
theorem State.line_dropLeftLines (h : Handle) (old new : LineSet) (s : State) (l : LineId) : (s.dropLeftLines h old new).line l =
    if lineIn old l && !lineIn new l then (s.line l).dropPublish h else s.line l := State.line_mapLines _ _ l

/-- MODIFY of a clean record with arguments in range, by a free engine. -/
theorem exec_modify_run {h : HandleArg} {a : PolicyArg} {p : Policy} {s : State} (served : s.servesHost = true)
    (free : s.engineFree = true) (inTable : h.slot.toNat < 512) (named : s.names h = true) (hp : decodePolicy a = some p)
    (sound : (s.slotAt h.slot.toNat).state ≠ .faulted) (clean : (s.slotAt h.slot.toNat).integrity = .clean)
    (inRange : ((s.slotAt h.slot.toNat).kind = some .exported && (decodeExport p).isNone) = false) :
    exec (.modify h a) s = .next (((s.engineAnswered 12 .ok []).withSlot h.slot.toNat { s.slotAt h.slot.toNat with
        body := modifiedBody p (modifiedSet (s.slotAt h.slot.toNat).kind p) s.tick (s.slotAt h.slot.toNat).body }).dropLeftLines
      { slot := h.slot.toNat, gen := h.gen } (s.slotAt h.slot.toNat).body.lineSet
      (modifiedBody p (modifiedSet (s.slotAt h.slot.toNat).kind p) s.tick (s.slotAt h.slot.toNat).body).lineSet) := by
  refine (exec_operation (exec_modify h a) served free (decodeModify_inRange inTable hp)).trans (congrArg _
    ((State.opModify_run (t := s.atEngine 12 (.modify _ _)) named sound clean inRange).trans ?_))
  rw [← clean]
  rfl

/-- Settles O17: by the kind of the record and its EXPORT arguments, then by the integrity of the body. -/
theorem modifyChangesThePolicies : Obligations.ModifyChangesThePolicies := by
  unfold Obligations.ModifyChangesThePolicies
  intro h a p s served free inTable named hp sound
  have decoded := decodeModify_inRange inTable hp
  have noBadExport : ((s.slotAt h.slot.toNat).kind ≠ some .exported ∨ decodeExport p ≠ none) →
      ((s.slotAt h.slot.toNat).kind = some .exported && (decodeExport p).isNone) = false := by
    rintro (other | decodes)
    · simp [other]
    · simp [Option.isNone_eq_false_iff.2 (Option.isSome_iff_ne_none.2 decodes)]
  refine ⟨fun clean other => ?policies, fun exported bad => ?badExport, fun clean exported set priority hx => ?exported,
    fun inRange => ⟨fun single => ?single, fun double => ?double⟩⟩
  case policies =>
    have run := exec_modify_run served free inTable named hp sound clean (noBadExport (.inl other))
    rw [modifiedSet_of_other p other] at run
    exact run.trans (congrArg _ (State.dropLeftLines_self _ _ _))
  case badExport =>
    rw [exec_operation (exec_modify h a) served free decoded, State.tableOperation,
      State.opModify_badArgument (t := s.atEngine 12 (.modify _ _)) named sound (by
        show ((s.slotAt h.slot.toNat).kind = some .exported && (decodeExport p).isNone) = true
        simp [exported, bad]), State.atEngine_complete]
  case exported =>
    have run := exec_modify_run served free inTable named hp sound clean (noBadExport (.inr (by simp [hx])))
    rw [modifiedSet_exported exported, hx, modifiedBody_exported] at run
    exact ⟨_, run, rfl, fun l => (State.line_dropLeftLines _ _ _ _ l).trans (by simp [lineIn]; rfl)⟩
  case single =>
    exact exec_operation_corrected (exec_modify h a) served free decoded (misoBlind_opModify _ _)
      (State.opModify_corrected inTable named sound single (noBadExport inRange))
  case double =>
    rw [exec_operation (exec_modify h a) served free decoded, State.tableOperation,
      State.opModify_lost (s := s.atEngine 12 (.modify _ _)) inTable named sound double (noBadExport inRange), State.atEngine_lost]

/-! ## RELEASE -/

theorem exec_release (h : HandleArg) (choice : Byte) (s : State) :
    exec (.release h choice) s = whilePowered (hostCommand 4 inService (decodeRelease h choice) requestEngine) s := rfl

/-- APPLY is 0 and DISCARD is 1 (R182). -/
theorem decodeRelease_inRange {h : HandleArg} {choice : Byte} (inTable : h.slot.toNat < 512) (bit : choice = 0 ∨ choice = 1) :
    decodeRelease h choice = some (.release { slot := h.slot.toNat, gen := h.gen } !decide (choice = 1)) := by
  simp [decodeRelease, decodeHandle_of_lt inTable, decodeBool_some bit]

/-- RELEASE of a slot of the table by a free engine. -/
theorem exec_release_operation {h : HandleArg} {choice : Byte} {s : State} (served : s.servesHost = true) (free : s.engineFree = true)
    (inTable : h.slot.toNat < 512) (bit : choice = 0 ∨ choice = 1) : exec (.release h choice) s =
      .next ((s.atEngine 4 (.release { slot := h.slot.toNat, gen := h.gen } !decide (choice = 1))).opRelease
        { slot := h.slot.toNat, gen := h.gen } !decide (choice = 1)) :=
  exec_operation (exec_release h choice) served free (decodeRelease_inRange inTable bit)

/-- A pending update applied, and its hold ended: the slot. -/
theorem State.slotAt_releaseApplied {t : State} {i : Nat} (u : PendingUpdate) (inTable : i < 512) :
    ((t.applyUpdate i u.value u.source u.stamp).dropHold i).slotAt i = { (t.slotAt i).updated u.value u.source u.stamp with
      held := false, missed := ((t.updateNotices i u.value).slotAt i).missed } := by
  obtain ⟨-, -, -, missed⟩ := t.postsAlike_applyUpdate i u.value u.source u.stamp
  rw [State.slotAt_dropHold, if_pos ⟨rfl, inTable⟩, State.slotAt_applyUpdate, if_pos ⟨rfl, inTable⟩, missed]

/-- Settles O20: by the hold, the choice and the pending update, then by the integrity of the body. -/
theorem releaseEndsAHold : Obligations.ReleaseEndsAHold := by
  unfold Obligations.ReleaseEndsAHold
  intro h choice s served free inTable bit named sound
  refine ⟨fun e held entry quiet => ?drop, fun e u held entry apply update clean => ?apply,
    fun e u held entry apply update => ⟨fun single => ?single, fun double => ?double⟩, fun unheld expired => ?tooLate,
    fun unheld never => ?notHeld⟩
  case drop =>
    have nothing : ((!decide (choice = 1)) && e.update.isSome) = false := by
      rcases quiet with rfl | none
      · rfl
      · simp [none]
    rw [exec_release_operation served free inTable bit,
      State.opRelease_held (t := s.atEngine 4 (.release _ _)) named sound held entry, State.releaseHeld_drop nothing]
    rfl
  case apply =>
    subst apply
    have operation := State.opRelease_held (t := s.atEngine 4 (.release { slot := h.slot.toNat, gen := h.gen } true)) (apply := true)
      named sound held entry
    rw [State.releaseHeld_apply update clean] at operation
    refine ⟨_, (exec_release_operation served free inTable bit).trans (congrArg _ operation), rfl, ?_⟩
    have at_ := State.slotAt_releaseApplied (t := s.atEngine 4 (.release { slot := h.slot.toNat, gen := h.gen } true)) u inTable
    have same : (s.atEngine 4 (.release { slot := h.slot.toNat, gen := h.gen } true)).postsAlike s := ⟨rfl, rfl, rfl, fun _ => rfl⟩
    have posts := State.postsAlike_updateNotices h.slot.toNat u.value same rfl
    have posted := State.postsAlike_trans (State.postsAlike_applyUpdate h.slot.toNat u.value u.source u.stamp _) posts
    refine ⟨by simp [State.complete, State.dropHold]; rfl, ?state, ?held, ?body, posted.1, posted.2.1, ?missed, fun j other => ?slots,
      ?lines, ?tick, ?sweep, ?capture, ?layout, ?mode, ?active, ?staged⟩
    case state => exact congrArg Slot.state at_
    case held => exact congrArg Slot.held at_
    case body => exact congrArg Slot.body at_
    case missed => exact (congrArg Slot.missed at_).trans (posts.2.2.2 _)
    case slots =>
      refine (State.slotAt_dropHold _ _ _).trans ((if_neg (by simp [other])).trans ?_)
      exact State.slotAt_applyUpdate_ne _ _ _ _ other
    all_goals simp [State.complete]; rfl
  case single =>
    subst apply
    exact exec_operation_corrected (exec_release h 0) served free (decodeRelease_inRange inTable bit) (misoBlind_opRelease _ _)
      (State.opRelease_corrected inTable named sound single held entry (by rw [update]; rfl))
  case double =>
    subst apply
    rw [exec_release_operation served free inTable bit]
    refine congrArg _ ((State.opRelease_lost (s := s.atEngine 4 (.release _ _)) inTable named sound double held entry
      (by rw [update]; rfl)).trans ?_)
    rw [State.atEngine_lost]
  case tooLate =>
    rw [exec_release_operation served free inTable bit,
      State.opRelease_tooLate (t := s.atEngine 4 (.release _ _)) named sound unheld expired]
    rfl
  case notHeld =>
    rw [exec_release_operation served free inTable bit,
      State.opRelease_notHeld (t := s.atEngine 4 (.release _ _)) named sound unheld never, State.atEngine_complete]

/-! ## What is refused -/

theorem decodeHandle_outOfTable {h : HandleArg} (outside : 511 < h.slot.toNat) : decodeHandle h = none := by
  rw [decodeHandle, if_neg (by omega)]

theorem decodeValue_outOfRange {v : ValueArg} (long : 8 < v.len.toNat) : decodeValue v = none := by
  rw [decodeValue, if_neg (by omega)]

theorem decodeWrite_outOfRange {h : HandleArg} {v : ValueArg} {now : Byte} (bad : 8 < v.len.toNat ∨ 1 < now.toNat) :
    decodeWrite h v now = none := by
  rcases bad with long | noBit
  · simp [decodeWrite, decodeValue_outOfRange long]
  · simp [decodeWrite, decodeBool_eq_none_iff.2 noBit]

theorem decodeOwner_outOfRange {b : Byte} (bad : 126 < b.toNat) : decodeOwner b = none := by
  have some_ : b ≠ 0 := fun e => by
    subst e
    exact absurd bad (by decide)
  rw [decodeOwner, if_neg some_, if_neg (by simp [isNode]; omega)]

theorem decodeUpdateNotice_outOfRange {b : Byte} (bad : 2 < b.toNat) : decodeUpdateNotice b = none := by
  have other : ∀ c : Byte, c.toNat ≤ 2 → b ≠ c := fun c low e => by
    subst e
    omega
  rw [decodeUpdateNotice, if_neg (other 0 (by decide)), if_neg (other 1 (by decide)), if_neg (other 2 (by decide))]

theorem decodePolicy_outOfRange {a : PolicyArg} (bad : 126 < a.owner.toNat ∨ 2 < a.updateNotice.toNat ∨ 1 < a.edgeNotice.toNat) :
    decodePolicy a = none := by
  rcases bad with owner | update | edge
  · simp [decodePolicy, decodeOwner_outOfRange owner]
  · simp [decodePolicy, decodeUpdateNotice_outOfRange update]
  · simp [decodePolicy, decodeBool_eq_none_iff.2 edge]

theorem exec_retire_event (h : HandleArg) (s : State) :
    exec (.retire h) s = whilePowered (hostCommand 3 inService ((decodeHandle h).map HostCommand.retire) requestEngine) s := rfl

theorem exec_hold_event (h : HandleArg) (limit : Byte) (s : State) :
    exec (.hold h limit) s = whilePowered (hostCommand 4 inService (decodeHold h limit) requestEngine) s := rfl

/-- Settles O21: at the port by the decoders, at the engine by the handle and the state of its record. -/
theorem staleAndFaultedHandlesAreRefused : Obligations.StaleAndFaultedHandlesAreRefused := by
  unfold Obligations.StaleAndFaultedHandlesAreRefused
  intro h v a publishNow limit choice s served
  obtain ⟨isOpen, here⟩ := State.servesHost_open served
  refine ⟨fun outside => ?outside, fun bad => exec_badArgument (exec_write h v publishNow) isOpen here (decodeWrite_outOfRange bad),
    fun bad => exec_badArgument (exec_modify h a) isOpen here (by simp [decodeModify, decodePolicy_outOfRange bad]),
    fun bad => exec_badArgument (exec_release h choice) isOpen here (by simp [decodeRelease, decodeBool_eq_none_iff.2 bad]),
    fun free inTable value policy publishes positive chooses => ?inTable⟩
  case outside =>
    have none := decodeHandle_outOfTable outside
    exact ⟨exec_badArgument (exec_read h) isOpen here (by rw [none]; rfl),
      exec_badArgument (exec_write h v publishNow) isOpen here (by simp [decodeWrite, none]),
      exec_badArgument (exec_modify h a) isOpen here (by simp [decodeModify, none]),
      exec_badArgument (exec_retire_event h) isOpen here (by rw [none]; rfl),
      exec_badArgument (exec_hold_event h limit) isOpen here (by simp [decodeHold, none]),
      exec_badArgument (exec_release h choice) isOpen here (by simp [decodeRelease, none])⟩
  case inTable =>
    obtain ⟨w, value⟩ := Option.isSome_iff_exists.1 value
    obtain ⟨p, policy⟩ := Option.isSome_iff_exists.1 policy
    have write := exec_operation (exec_write h v publishNow) served free (decodeWrite_inRange inTable value publishes)
    have modify := exec_operation (exec_modify h a) served free (decodeModify_inRange inTable policy)
    have hold := exec_operation (exec_hold_event h limit) served free (decodeHold_inRange inTable positive)
    rw [exec_read_operation served free inTable, write, modify, hold, exec_release_operation served free inTable chooses]
    exact ⟨fun stale => ⟨congrArg _ (State.opRead_stale stale), congrArg _ (State.opWrite_stale _ _ stale),
        congrArg _ (State.opModify_stale _ stale), congrArg _ (State.opHold_stale _ stale), congrArg _ (State.opRelease_stale _ stale)⟩,
      fun current faulted => ⟨congrArg _ (State.opWrite_faulted _ _ current faulted),
        congrArg _ (State.opModify_faulted _ current faulted), congrArg _ (State.opHold_faulted _ current faulted),
        congrArg _ (State.opRelease_faulted _ current faulted)⟩⟩

end Sys2Proof.Machine
end

section
/-! PROOFS. The layout, the grants of the arbiter, and the class store. -/

namespace Sys2Proof.Machine

/-! ## Commands of other modes -/

theorem exec_wrongMode {α : Type} {c : Instr} {n : Nat} {allowed : Mode → Bool} {args : Option α} {run : α → State → State} {s : State}
    (event : ∀ t, exec c t = whilePowered (hostCommand n allowed args run) t) (isOpen : s.portOpen = true) (elsewhere : allowed s.mode = false) :
    exec c s = .next (s.answered n .wrongMode []) := by
  obtain ⟨released, opened⟩ := State.portOpen_iff.1 isOpen
  rw [event, whilePowered_released _ released, hostCommand_wrongMode n args run opened elsewhere]

/-- As `exec_operation`, for a table command of any mode set. -/
theorem exec_operation_allowed {i : Instr} {n : Nat} {allowed : Mode → Bool} {args : Option HostCommand} {c : HostCommand} {s : State}
    (event : ∀ t, exec i t = whilePowered (hostCommand n allowed args requestEngine) t) (isOpen : s.portOpen = true)
    (here : allowed s.mode = true) (free : s.engineFree = true) (decoded : args = some c) :
    exec i s = .next ((s.atEngine n c).tableOperation c) := by
  obtain ⟨released, opened⟩ := State.portOpen_iff.1 isOpen
  rw [event, whilePowered_released _ released, decoded, hostCommand_atEngine n c opened here free]

/-! ## SET_LAYOUT -/

theorem exec_setLayout (b l e : Half) (s : State) :
    exec (.setLayout b l e) s = whilePowered (hostCommand 6 inConfig ((decodeLayout b l e).map HostCommand.setLayout) requestEngine) s := rfl

theorem decodeLayout_of_whole {b l e : Half} (whole : b.toNat + l.toNat + e.toNat = 512) :
    decodeLayout b l e = some { b := b.toNat, l := l.toNat, e := e.toNat } := by
  have each : b.toNat ≤ 512 ∧ l.toNat ≤ 512 ∧ e.toNat ≤ 512 := by omega
  simp [decodeLayout, whole, each]

theorem decodeLayout_eq_none {b l e : Half}
    (bad : 512 < b.toNat ∨ 512 < l.toNat ∨ 512 < e.toNat ∨ b.toNat + l.toNat + e.toNat ≠ 512) : decodeLayout b l e = none := by
  simp only [decodeLayout, Bool.and_eq_true, decide_eq_true_eq, beq_iff_eq, ite_eq_right_iff, reduceCtorEq, imp_false]
  omega

theorem State.opSetLayout_conflict {t : State} {y : Layout} (conflict : t.layoutConflict y = true) :
    t.opSetLayout y = t.complete .layoutConflict [] := by
  unfold State.opSetLayout
  rw [if_pos conflict]

/-- What SET_LAYOUT writes once it has retired the learned records (R15). -/
def State.relaid (y : Layout) (retired : Nat) (u : State) : State :=
  { u with layout := y, victim := y.b }.complete .ok (halfBytes (BitVec.ofNat 16 retired))

theorem State.relaid_slotAt (y : Layout) (n : Nat) (u : State) (i : Nat) : (u.relaid y n).slotAt i = u.slotAt i := rfl
theorem State.relaid_line (y : Layout) (n : Nat) (u : State) (l : LineId) : (u.relaid y n).line l = u.line l := rfl
theorem State.relaid_holds (y : Layout) (n : Nat) (u : State) : (u.relaid y n).holds = u.holds := rfl
theorem State.relaid_notices (y : Layout) (n : Nat) (u : State) : (u.relaid y n).notices = u.notices := rfl
theorem State.relaid_conditions (y : Layout) (n : Nat) (u : State) : (u.relaid y n).conditions = u.conditions := rfl

/-- Moving the layout and the table's parts commute. -/
theorem State.relaid_rest (y : Layout) (n : Nat) (u : State) (a : Vector Slot 512) (b : List HoldEntry) (c : Vector LineState 4)
    (d : List Notice) (e : Conditions) :
    { u.relaid y n with slots := a, holds := b, lines := c, notices := d, conditions := e } =
      State.relaid y n { u with slots := a, holds := b, lines := c, notices := d, conditions := e } := rfl

/-- SET_LAYOUT without a conflict: every learned record is retired with an EVICTED, LAYOUT notice, and the layout moves (R15). -/
theorem State.opSetLayout_fits {t : State} {y : Layout} (fits : t.layoutConflict y = false) :
    t.opSetLayout y = (t.retireAll Slot.isLearned (.evicted .layout)).relaid y t.learnedCount := by
  unfold State.opSetLayout
  rw [if_neg (by simp [fits])]
  unfold State.relaid
  with_reducible rfl

/-- As `opSetLayout_fits`, part by part. -/
theorem State.opSetLayout_moves {t : State} {y : Layout} (fits : t.layoutConflict y = false) :
    { t.opSetLayout y with slots := t.slots, holds := t.holds, lines := t.lines, notices := t.notices, conditions := t.conditions } =
      t.relaid y t.learnedCount ∧
    (∀ i, (t.opSetLayout y).slotAt i = (t.retireAll Slot.isLearned (.evicted .layout)).slotAt i) ∧
    (t.opSetLayout y).holds = (t.holds.filter fun e => !(t.slotAt e.slot).isLearned) ∧
    (∀ l, (t.opSetLayout y).line l = t.lineWithout Slot.isLearned l) ∧
    (t.opSetLayout y).notices = (t.evictions Slot.isLearned .layout).notices ∧
    (t.opSetLayout y).conditions = (t.evictions Slot.isLearned .layout).conditions := by
  obtain ⟨notices, conditions, _, _⟩ := State.postsAlike_retireAll Slot.isLearned .layout t
  rw [State.opSetLayout_fits fits]
  refine ⟨?_, State.relaid_slotAt _ _ _, ?_, fun l => ?_, ?_, ?_⟩
  · rw [State.relaid_rest, State.retireAll_rest]
  · rw [State.relaid_holds, State.retireAll_holds _ _ rfl]
  · rw [State.relaid_line, State.line_retireAll]
  · rw [State.relaid_notices, notices]
  · rw [State.relaid_conditions, conditions]

theorem State.layoutConflict_eq_false {y : Layout} {s : State}
    (fits : ∀ i < 512, (s.slotAt i).state ≠ .empty →
      ((s.slotAt i).kind = some .bound → i < y.b) ∧ ((s.slotAt i).kind = some .exported → y.b + y.l ≤ i)) :
    s.layoutConflict y = false := by
  rw [← Bool.not_eq_true, State.layoutConflict_iff]
  rintro ⟨i, inTable, occupied, ⟨isBound, outside⟩ | ⟨isExport, outside⟩⟩
  · have := (fits i inTable occupied).1 isBound
    omega
  · have := (fits i inTable occupied).2 isExport
    omega

/-- Evictions that find room in the queue leave the slots. -/
theorem State.slotAt_evictions_room {pick : Slot → Bool} {reason : Reason} {s : State} (noNotice : s.notices = [])
    (few : ((List.range 512).countP fun i => pick (s.slotAt i)) ≤ 64) (i : Nat) : (s.evictions pick reason).slotAt i = s.slotAt i := by
  rw [State.evictions_room noNotice few]
  generalize List.map _ _ = posted
  rfl

/-- Settles O23: by the port's checks, then by whether a record conflicts with the new layout. -/
theorem setLayoutMovesTheRegions : Obligations.SetLayoutMovesTheRegions := by
  unfold Obligations.SetLayoutMovesTheRegions
  intro b l e s served
  have isOpen := (State.servesHost_open served).1
  refine ⟨fun elsewhere => ?wrong, fun here bad => ?bad, fun here free whole => ?granted⟩
  case wrong => exact exec_wrongMode (exec_setLayout b l e) isOpen (inConfig_of_ne elsewhere)
  case bad =>
    exact exec_badArgument (exec_setLayout b l e) isOpen (by rw [here]; rfl) (by rw [decodeLayout_eq_none bad]; rfl)
  case granted =>
    have run : exec (.setLayout b l e) s =
        .next ((s.atEngine 6 (.setLayout { b := b.toNat, l := l.toNat, e := e.toNat })).opSetLayout
          { b := b.toNat, l := l.toNat, e := e.toNat }) :=
      exec_operation_allowed (exec_setLayout b l e) isOpen (by rw [here]; rfl) free (c := .setLayout _)
        (by rw [decodeLayout_of_whole whole]; rfl)
    refine ⟨fun conflict => ?conflict, fun fits => ?moves⟩
    case conflict =>
      rw [run, State.opSetLayout_conflict (State.layoutConflict_iff.2 conflict), State.atEngine_complete]
    case moves =>
      have clear : (s.atEngine 6 (.setLayout { b := b.toNat, l := l.toNat, e := e.toNat })).layoutConflict
          { b := b.toNat, l := l.toNat, e := e.toNat } = false := State.layoutConflict_eq_false fits
      have alike : (s.atEngine 6 (.setLayout { b := b.toNat, l := l.toNat, e := e.toNat })).postsAlike s := ⟨rfl, rfl, rfl, fun _ => rfl⟩
      have sameSlots : ∀ i, (s.atEngine 6 (.setLayout { b := b.toNat, l := l.toNat, e := e.toNat })).slotAt i = s.slotAt i := fun _ => rfl
      obtain ⟨frame, slots, holds, lines, notices, conditions⟩ := State.opSetLayout_moves clear
      have retired := State.slotAt_retireAll_evictions .layout (s.atEngine 6 (.setLayout { b := b.toNat, l := l.toNat, e := e.toNat }))
        (pick := Slot.isLearned) rfl
      obtain ⟨sameNotices, sameConditions, _, sameMissed⟩ := State.evictions_congr (pick := Slot.isLearned) (reason := .layout) alike sameSlots
      refine ⟨_, run, frame, fun i => ⟨fun learned => ?_, fun other => ?_⟩, holds, lines, notices.trans sameNotices,
        conditions.trans sameConditions, fun noNotice few => ?_⟩
      · rw [slots, (retired i).1 learned, sameMissed]
        rfl
      · rw [slots, (retired i).2 other]
        rfl
      · have room := State.evictions_room (s := s) (pick := Slot.isLearned) (reason := .layout) noNotice few
        refine ⟨(conditions.trans sameConditions).trans (by rw [room]), fun i => ?_, (notices.trans sameNotices).trans (by rw [room])⟩
        rw [slots]
        by_cases learned : (s.slotAt i).isLearned
        · rw [(retired i).1 learned]
          dsimp only
          rw [sameMissed, State.slotAt_evictions_room noNotice few]
        · rw [(retired i).2 (Bool.not_eq_true _ ▸ learned)]
          rfl

/-! ## The grants -/

/-- A table command that passes the port's checks while the engine is busy waits PENDING (R44, log 2). -/
theorem exec_waits {i : Instr} {n : Nat} {allowed : Mode → Bool} {args : Option HostCommand} {c : HostCommand} {s : State}
    (event : ∀ t, exec i t = whilePowered (hostCommand n allowed args requestEngine) t) (isOpen : s.portOpen = true)
    (here : allowed s.mode = true) (busy : s.engineFree = false) (decoded : args = some c) :
    exec i s = .next { s with miso := s.commandOut n, refused := false, slot := .pending c } :=
  (exec_taken event isOpen here decoded).trans (congrArg _ (requestEngine_busy c (s := s.taken n) busy))

theorem exec_tableCommandOperation {s : State} (released : s.resetHeld = false) :
    exec .tableCommandOperation s = .next s.commandOperation := whilePowered_released _ released

/-- Without the grant, the command slot's operation does nothing (log 1). -/
theorem State.commandOperation_ungranted {s : State} (ungranted : s.grantNext ≠ some .command) : s.commandOperation = s := by
  unfold State.commandOperation
  split
  · rfl
  · exact if_neg ungranted
  · rfl

theorem State.purgeStep_ungranted {s : State} (ungranted : s.grantNext ≠ some .command) : s.purgeStep = s := by
  unfold State.purgeStep
  split
  · exact if_neg ungranted
  · rfl

theorem State.sweepStep_ungranted {s : State} (ungranted : s.grantNext ≠ some .sweep) : s.sweepStep = s := by
  unfold State.sweepStep
  split
  · exact if_neg ungranted
  · rfl

theorem State.frameOperation_ungranted {s : State} {l : LineId} (kind : FrameKind) (op : LineId → RxFrame → State → State)
    (ungranted : s.grantNext ≠ some (.line l)) : s.frameOperation kind op l = s := by
  unfold State.frameOperation
  split
  · exact if_neg (by simp [ungranted])
  · rfl

theorem State.restartStep_ungranted {s : State} {l : LineId} (ungranted : s.grantNext ≠ some (.line l)) : s.restartStep l = s := by
  unfold State.restartStep
  exact if_neg (by simp [ungranted])

/-- No operation of the engine goes without its grant (log 1). -/
theorem exec_ungranted {s : State} (released : s.resetHeld = false) :
    (s.grantNext ≠ some .command → exec .tableCommandOperation s = .next s ∧ exec .purgeVisit s = .next s) ∧
    (s.grantNext ≠ some .sweep → exec .sweepVisit s = .next s) ∧
    (∀ l, s.grantNext ≠ some (.line l) →
      exec (.update l) s = .next s ∧ exec (.query l) s = .next s ∧ exec (.withdraw l) s = .next s ∧ exec (.restartPurge l) s = .next s) := by
  have alone : ∀ {i : Instr} {f : State → State}, (exec i s = whilePowered f s) → f s = s → exec i s = .next s := by
    intro i f event same
    rw [event, whilePowered_released _ released, same]
  refine ⟨fun ungranted => ⟨?_, ?_⟩, fun ungranted => ?_, fun l ungranted => ⟨?_, ?_, ?_, ?_⟩⟩
  · exact alone rfl (State.commandOperation_ungranted ungranted)
  · exact alone rfl (State.purgeStep_ungranted ungranted)
  · exact alone rfl (State.sweepStep_ungranted ungranted)
  · exact alone rfl (State.frameOperation_ungranted .update State.opUpdate ungranted)
  · exact alone rfl (State.frameOperation_ungranted .query State.opQuery ungranted)
  · exact alone rfl (State.frameOperation_ungranted .withdraw State.opWithdraw ungranted)
  · exact alone (f := (·.restartStep l)) rfl (State.restartStep_ungranted ungranted)

theorem State.waitAfterOther_eq (s : State) : s.waitAfterOther = if s.sweep = none then s.arb.sweepWait else s.arb.sweepWait + 1 := by
  unfold State.waitAfterOther
  cases s.sweep <;> rfl

/-- What each kind of grant does to the run, the line pointer and the sweep-wait count (R50). -/
theorem State.grants_eq (s : State) :
    let waited := if s.sweep = none then s.arb.sweepWait else s.arb.sweepWait + 1
    ((∃ l, s.lineRequests l = true) → s.grantCommand = { s with arb := { s.arb with run := s.arb.run + 1, sweepWait := waited } }) ∧
    ((∀ l, ¬s.lineRequests l = true) → s.grantCommand = { s with arb := { s.arb with run := 0, sweepWait := waited } }) ∧
    (∀ l, s.grantLine l = { s with arb := { s.arb with run := 0, pointer := l, sweepWait := waited } }) ∧
    s.grantSweep = { s with arb := { s.arb with sweepWait := 0 } } := by
  refine ⟨fun asking => ?_, fun quiet => ?_, fun l => ?_, rfl⟩
  · unfold State.grantCommand
    rw [if_pos (State.anyLineRequests_iff.2 asking), State.waitAfterOther_eq]
  · unfold State.grantCommand
    rw [State.anyLineRequests_eq_false fun l => by simpa using quiet l, State.waitAfterOther_eq]
    rfl
  · unfold State.grantLine
    rw [State.waitAfterOther_eq]

/-- Whom the arbiter grants (R44, R45, R47, R48, R49). -/
theorem State.grantNext_order (s : State) :
    (s.mode = .starting → s.grantNext = none) ∧
    (s.mode ≠ .starting →
      (s.sweep ≠ none → s.arb.sweepShare ≤ s.arb.sweepWait → s.grantNext = some .sweep) ∧
      ((s.sweep = none ∨ s.arb.sweepWait < s.arb.sweepShare) →
        (s.commandRequests = true → ((∀ l, ¬s.lineRequests l = true) ∨ s.arb.run < s.arb.fieldShare) → s.grantNext = some .command) ∧
        ((¬s.commandRequests = true ∨ s.arb.fieldShare ≤ s.arb.run) → ∀ k : Fin 4, s.lineRequests (s.arb.pointer + 1 + k) = true →
          (∀ j < k, ¬s.lineRequests (s.arb.pointer + 1 + j) = true) → s.grantNext = some (.line (s.arb.pointer + 1 + k))) ∧
        (¬s.commandRequests = true → (∀ l, ¬s.lineRequests l = true) →
          (s.sweep ≠ none → s.grantNext = some .sweep) ∧ (s.sweep = none → s.grantNext = none)))) := by
  simp only [Bool.not_eq_true]
  refine ⟨State.grantNext_starting, fun started => ⟨State.grantNext_share started, fun share => ⟨?command, ?line, ?rest⟩⟩⟩
  case command => exact State.grantNext_command started share
  case line => exact fun noCommand k => State.grantNext_line started share noCommand
  case rest =>
    intro noCommand quiet
    rw [State.grantNext_rest started share noCommand quiet]
    exact ⟨fun inFlight => if_pos (Option.isSome_iff_ne_none.2 inFlight), fun none => by rw [none]; rfl⟩

/-- Settles O25: what waits, what the grant of a command does, and the arbiter's choices, part by part. -/
theorem tableCommandsWaitForTheirGrant : Obligations.TableCommandsWaitForTheirGrant := by
  unfold Obligations.TableCommandsWaitForTheirGrant
  simp only [← State.lineRequests_iff, ← State.commandRequests_iff]
  intro s
  refine ⟨fun served busy => ?waits, fun released granted => ?granted, s.grantNext_order.1, s.grantNext_order.2, exec_ungranted, s.grants_eq⟩
  case waits =>
    obtain ⟨isOpen, here⟩ := State.servesHost_open served
    refine ⟨fun k key decoded => ?_, fun h inTable => ?_, fun region k a c => exec_waits (exec_create region k a) isOpen here busy,
      fun h inTable => ?_, fun h v publishNow c => exec_waits (exec_write h v publishNow) isOpen here busy,
      fun h a c => exec_waits (exec_modify h a) isOpen here busy, fun h limit c => exec_waits (exec_hold_event h limit) isOpen here busy,
      fun h choice c => exec_waits (exec_release h choice) isOpen here busy, fun b l e y config decoded => ?_⟩
    · exact exec_waits (exec_find k) isOpen here busy (by rw [decoded]; rfl)
    · exact exec_waits (exec_retire_event h) isOpen here busy (by rw [decodeHandle_of_lt inTable]; rfl)
    · exact exec_waits (exec_read h) isOpen here busy (by rw [decodeHandle_of_lt inTable]; rfl)
    · exact exec_waits (exec_setLayout b l e) isOpen (by rw [config]; rfl) busy (by rw [decoded]; rfl)
  case granted =>
    have run : ∀ c, s.slot = .pending c → (∀ f, c ≠ .purge f) →
        exec .tableCommandOperation s = .next (s.grantCommand.tableOperation c) := fun c waiting visits => by
      rw [exec_tableCommandOperation released, State.commandOperation_granted waiting visits granted]
    refine ⟨fun c waiting _ visits => run c waiting visits, fun key waiting unused => ?_, fun h limit waiting current sound free room => ?_⟩
    · rw [run _ waiting (by simp), State.tableOperation, State.opFind_none (t := s.grantCommand) unused]
      rfl
    · rw [run _ waiting (by simp), State.tableOperation, State.opHold_ok (t := s.grantCommand) current sound free room]
      rfl

/-! ## The class store -/

theorem exec_setClass (a : ClassArg) (s : State) :
    exec (.setClass a) s = whilePowered (hostCommand 15 inService (decodeClass a) fun x => State.setClass x.1 x.2) s := rfl

theorem exec_setMask (number : Byte) (mask : Tri) (s : State) :
    exec (.setMask number mask) s = whilePowered (hostCommand 4 inService (decodeMask number mask) fun x => State.setMask x.1 x.2) s := rfl

theorem exec_readClass (copy number : Byte) (s : State) : exec (.readClass copy number) s =
    whilePowered (hostCommand 2 inService (decodeReadClass copy number) fun x => State.readClass x.1 x.2) s := rfl

theorem exec_commitClasses (s : State) :
    exec .commitClasses s = whilePowered (hostCommand 0 inService (some ()) fun _ => State.commitClasses) s := rfl

theorem decodeFin4_ofNat (n : Fin 4) : decodeFin4 (BitVec.ofNat 8 n.val) = some n := by
  revert n
  decide

theorem decodeFin4_eq_none {b : Byte} (large : 3 < b.toNat) : decodeFin4 b = none := by
  unfold decodeFin4
  rw [dif_neg (by omega)]

theorem decodeFin16_ofNat (n : Fin 16) : decodeFin16 (BitVec.ofNat 8 n.val) = some n := by
  revert n
  decide

theorem decodeFin16_eq_none {b : Byte} (large : 15 < b.toNat) : decodeFin16 b = none := by
  unfold decodeFin16
  rw [dif_neg (by omega)]

/-- The upper four bits of a 24-bit number are 0 exactly below 2 to the power of 20. -/
theorem tri_high_eq_zero {t : Tri} : t.extractLsb' 20 4 = 0 ↔ t.toNat < 2 ^ 20 := by
  have bound := t.isLt
  rw [← BitVec.toNat_inj, BitVec.extractLsb'_toNat, Nat.shiftRight_eq_div_pow]
  simp only [BitVec.ofNat_eq_ofNat, BitVec.toNat_ofNat]
  omega

theorem decodeIdent_of_lt {t : Tri} (small : t.toNat < 2 ^ 20) : decodeIdent t = some (t.extractLsb' 0 20) := by
  unfold decodeIdent
  rw [if_pos (tri_high_eq_zero.2 small)]

theorem decodeIdent_eq_none {t : Tri} (large : 1048575 < t.toNat) : decodeIdent t = none := by
  unfold decodeIdent
  rw [if_neg (by rw [tri_high_eq_zero]; omega)]

theorem decodeMask_eq_none {number : Byte} {mask : Tri} (bad : 3 < number.toNat ∨ 1048575 < mask.toNat) : decodeMask number mask = none := by
  unfold decodeMask
  rcases bad with bad | bad
  · rw [decodeFin4_eq_none bad]
    rfl
  · rw [decodeIdent_eq_none bad]
    cases decodeFin4 number <;> rfl

theorem decodeReadClass_eq_none {copy number : Byte} (bad : 1 < copy.toNat ∨ 15 < number.toNat) : decodeReadClass copy number = none := by
  unfold decodeReadClass
  rcases bad with bad | bad
  · rw [decodeBool_eq_none_iff.2 bad]
    rfl
  · rw [decodeFin16_eq_none bad]
    cases decodeBool copy <;> rfl

/-- Settles O26: each command by its arguments, and COMMIT_CLASSES by the mode. -/
theorem classStoreCommands : Obligations.ClassStoreCommands := by
  unfold Obligations.ClassStoreCommands
  intro s served
  obtain ⟨isOpen, here⟩ := State.servesHost_open served
  refine ⟨fun a n c decoded => ?setClass, fun a => exec_badArgument (exec_setClass a) isOpen here, fun number mask n hn small => ?setMask,
    fun number mask bad => exec_badArgument (exec_setMask number mask) isOpen here (decodeMask_eq_none bad),
    fun copy number bad => exec_badArgument (exec_readClass copy number) isOpen here (decodeReadClass_eq_none bad),
    fun copy n named => ?readClass, fun config => ?installs, fun traffic => ?defers⟩
  case setClass => exact exec_taken (exec_setClass a) isOpen here decoded
  case setMask =>
    have decoded : decodeMask number mask = some (n, mask.extractLsb' 0 20) := by
      rw [decodeMask, hn, decodeFin4_ofNat, decodeIdent_of_lt small]
      rfl
    exact exec_taken (exec_setMask number mask) isOpen here decoded
  case readClass =>
    rcases named with rfl | rfl
    · exact exec_taken (exec_readClass 0 _) isOpen here (a := (false, n)) (by rw [decodeReadClass, decodeFin16_ofNat]; rfl)
    · exact exec_taken (exec_readClass 1 _) isOpen here (a := (true, n)) (by rw [decodeReadClass, decodeFin16_ofNat]; rfl)
  case installs =>
    refine (exec_taken exec_commitClasses isOpen here rfl).trans (congrArg _ ?_)
    rw [State.commitClasses, if_pos (by exact config)]
    rfl
  case defers =>
    refine (exec_taken exec_commitClasses isOpen here rfl).trans (congrArg _ ?_)
    rw [State.commitClasses, if_neg (by exact traffic)]
    rfl

end Sys2Proof.Machine
end

section
/-! PROOFS. The commands of the lines and of the units, and the fault capture. -/

namespace Sys2Proof.Machine

/-! ## SET_LINE -/

theorem exec_setLine (a : LineArg) (s : State) :
    exec (.setLine a) s = whilePowered (hostCommand 13 inService (decodeSettings a) fun x => State.setLineSettings x.1 x.2) s := rfl

theorem State.withLine_self (s : State) (l : LineId) : s.withLine l (s.line l) = s := State.setLine_line s l

/-- A line whose settings differ from the new ones in enabled alone: the event of the change, on the line with the new settings (R60). -/
theorem LineState.reenable_of (acts : Bool) {ln : LineState} {t : LineSettings} {b : Bool} (was : { t with enabled := b } = ln.settings) :
    ln.reenable acts t.enabled =
      if t.enabled && !b then LineState.enableEvent acts { ln with settings := t }
      else if !t.enabled && b then LineState.disableEvent acts { ln with settings := t }
      else { ln with settings := t } := by
  unfold LineState.reenable
  rw [← was]

/-- SET_LINE in RUN or LISTEN of settings that differ in enabled at most. -/
theorem exec_setLine_reenables {a : LineArg} {l : LineId} {t : LineSettings} {b : Bool} {s : State} (isOpen : s.portOpen = true)
    (here : inService s.mode = true) (decoded : decodeSettings a = some (l, t)) (traffic : s.mode ≠ .config)
    (was : { t with enabled := b } = (s.line l).settings) :
    exec (.setLine a) s = .next ((s.answered 13 .ok []).withLine l
      (if t.enabled && !b then LineState.enableEvent s.flowActs { s.line l with settings := t }
       else if !t.enabled && b then LineState.disableEvent s.flowActs { s.line l with settings := t }
       else { s.line l with settings := t })) := by
  have enabled : (s.line l).settings.enabled = b := by rw [← was]
  refine (exec_taken (exec_setLine a) isOpen here decoded).trans (congrArg _ ?_)
  unfold State.setLineSettings
  rw [if_neg (by exact traffic), if_pos (by rw [State.taken_line, enabled, was]), State.taken_flowActs]
  exact congrArg (State.complete .ok []) (State.modifyLine_to (s := s.taken 13) (LineState.reenable_of _ was))

/-- Settles O28: in CONFIG all settings are written; elsewhere by the change of enabled. -/
theorem setLineWritesTheSettings : Obligations.SetLineWritesTheSettings := by
  unfold Obligations.SetLineWritesTheSettings
  intro a s served
  obtain ⟨isOpen, here⟩ := State.servesHost_open served
  refine ⟨exec_badArgument (exec_setLine a) isOpen here, fun l t decoded => ⟨fun config => ?config, fun traffic differs => ?differs,
    fun traffic same => ?same, fun traffic was off keeps => ?stops, fun traffic was off flushes => ?flushes, fun traffic was on => ?starts⟩⟩
  case config =>
    refine (exec_taken (exec_setLine a) isOpen here decoded).trans (congrArg _ ?_)
    rw [State.setLineSettings, if_pos (by exact config)]
    rfl
  case differs =>
    refine (exec_taken (exec_setLine a) isOpen here decoded).trans (congrArg _ ?_)
    rw [State.setLineSettings, if_neg (by exact traffic), if_neg (by exact differs)]
    rfl
  case same =>
    have unchanged : { s.line l with settings := t } = (s.answered 13 .ok []).line l := by rw [same]; rfl
    rw [exec_setLine_reenables isOpen here decoded traffic (b := t.enabled) same]
    cases t.enabled <;> exact congrArg _ ((congrArg (State.withLine l · _) unchanged).trans (State.withLine_self _ l))
  case stops =>
    rw [exec_setLine_reenables isOpen here decoded traffic was, off]
    simp [LineState.disableEvent, keeps]
  case flushes =>
    rw [exec_setLine_reenables isOpen here decoded traffic was, off]
    simp [LineState.disableEvent, flushes, LineState.flush_eq]
  case starts =>
    rw [exec_setLine_reenables isOpen here decoded traffic was, on, LineState.enableEvent_eq]
    rfl

/-! ## READ_LINE and READ_TIMING -/

theorem exec_readLine (line : Byte) (s : State) :
    exec (.readLine line) s = whilePowered (hostCommand 1 inService (decodeLine line) State.readLineState) s := rfl

theorem exec_readTiming (s : State) :
    exec .readTiming s = whilePowered (hostCommand 0 inService (some ()) fun _ t => t.complete .ok t.timingBytes) s := rfl

theorem State.timingBytes_idle {s : State} (idle : s.sweep = none) : s.timingBytes =
    [byteOf s.tickPeriod] ++ halfBytes s.learnedExpiry ++ tickBytes s.tick ++ List.replicate 7 0 ++ [boolByte s.sweepOwed] := by
  unfold State.timingBytes
  rw [idle]

theorem State.timingBytes_sweeping {s : State} {w : Sweep} (sweeping : s.sweep = some w) : s.timingBytes =
    [byteOf s.tickPeriod] ++ halfBytes s.learnedExpiry ++ tickBytes s.tick ++
      ([1] ++ tickBytes w.now ++ halfBytes (BitVec.ofNat 16 w.pos)) ++ [boolByte s.sweepOwed] := by
  unfold State.timingBytes
  rw [sweeping]

/-- Settles O29: by the port's check, and READ_TIMING by whether a sweep is in flight. -/
theorem lineAndTimingReadsChangeNothing : Obligations.LineAndTimingReadsChangeNothing := by
  unfold Obligations.LineAndTimingReadsChangeNothing
  intro s
  refine ⟨fun isOpen standby => ?standby, fun served => ?served⟩
  case standby =>
    have elsewhere : inService s.mode = false := by rw [standby]; rfl
    exact ⟨exec_wrongMode exec_readTiming isOpen elsewhere, fun line => exec_wrongMode (exec_readLine line) isOpen elsewhere⟩
  case served =>
    obtain ⟨isOpen, here⟩ := State.servesHost_open served
    have timing : exec .readTiming s = .next (s.answered 0 .ok s.timingBytes) := exec_taken exec_readTiming isOpen here rfl
    refine ⟨fun l => exec_taken (exec_readLine _) isOpen here (decodeLine_ofNat l),
      fun line large => exec_badArgument (exec_readLine line) isOpen here (decodeLine_eq_none_iff.2 large), fun idle => ?_,
      fun w sweeping => ?_⟩
    · rw [timing, State.timingBytes_idle idle]
    · rw [timing, State.timingBytes_sweeping sweeping]

/-! ## LINE_HOLD -/

theorem exec_lineHold (line : Byte) (duration : Half) (restart : Byte) (s : State) : exec (.lineHold line duration restart) s =
    whilePowered (hostCommand 4 inTraffic (decodeLineHold line duration restart) fun a => State.lineHold a.1 a.2.1 a.2.2) s := rfl

theorem decodeLineHold_inRange (l : LineId) (duration : Half) (restart : Bool) :
    decodeLineHold (BitVec.ofNat 8 l.val) duration (boolByte restart) = some (l, duration, restart) := by
  rw [decodeLineHold, decodeLine_ofNat, decodeBool_boolByte]
  rfl

theorem decodeLineHold_eq_none {line option : Byte} (duration : Half) (bad : 3 < line.toNat ∨ 1 < option.toNat) :
    decodeLineHold line duration option = none := by
  unfold decodeLineHold
  rcases bad with bad | bad
  · rw [decodeLine_eq_none_iff.2 bad]
    rfl
  · rw [decodeBool_eq_none_iff.2 bad]
    cases decodeLine line <;> rfl

theorem inTraffic_of {m : Mode} (traffic : m = .run ∨ m = .listen) : inTraffic m = true := by
  rcases traffic with rfl | rfl <;> rfl

/-- LINE_HOLD in RUN and LISTEN writes its line alone. -/
theorem exec_lineHold_to {l : LineId} {duration : Half} {restart : Bool} {s : State} {x : LineState} (isOpen : s.portOpen = true)
    (traffic : s.mode = .run ∨ s.mode = .listen) (becomes : (s.line l).commandHold (s.lineActive l) duration restart = x) :
    exec (.lineHold (BitVec.ofNat 8 l.val) duration (boolByte restart)) s = .next ((s.answered 4 .ok []).withLine l x) := by
  refine (exec_taken (exec_lineHold _ duration _) isOpen (inTraffic_of traffic) (decodeLineHold_inRange l duration restart)).trans
    (congrArg _ ?_)
  unfold State.lineHold
  exact congrArg (State.complete .ok []) (State.modifyLine_to (s := s.taken 4) becomes)

/-- Settles O31: by the duration and the hold that stands. -/
theorem lineHoldsBreakAndEnd : Obligations.LineHoldsBreakAndEnd := by
  unfold Obligations.LineHoldsBreakAndEnd
  intro l duration restart s
  refine ⟨fun isOpen config => exec_wrongMode (exec_lineHold _ _ _) isOpen (by rw [config]; rfl),
    fun isOpen traffic line option bad =>
      exec_badArgument (exec_lineHold _ _ _) isOpen (inTraffic_of traffic) (decodeLineHold_eq_none duration bad),
    fun isOpen traffic starts => ?starts, fun isOpen traffic stops => ?stops, fun d r released breaking counted => ?ends⟩
  case starts =>
    refine ⟨fun off quiet => ?_, fun off sending => ?_, fun d r waiting => ?_, fun d r breaking => ?_⟩ <;>
      refine exec_lineHold_to isOpen traffic ?_ <;> rw [LineState.commandHold, if_neg starts]
    · rw [off, quiet]
      rfl
    · rw [off]
      exact if_pos (Option.isSome_iff_ne_none.2 sending)
    · rw [waiting]
    · rw [breaking]
  case stops =>
    refine ⟨fun off => ?_, fun d r waiting => ?_, fun d r breaking => ?_⟩
    · have unchanged : (s.line l).commandHold (s.lineActive l) duration restart = s.line l := by
        rw [LineState.commandHold, if_pos stops, off]
      exact (exec_lineHold_to isOpen traffic unchanged).trans (congrArg _ (State.withLine_self (s.answered 4 .ok []) l))
    · refine exec_lineHold_to isOpen traffic ?_
      rw [LineState.commandHold, if_pos stops, waiting]
    · refine exec_lineHold_to isOpen traffic ?_
      rw [LineState.commandHold, if_pos stops, LineState.endBreak_of_breaking _ breaking, breaking]
  case ends =>
    refine (whilePowered_released _ released).trans (congrArg _ ?_)
    unfold State.holdEnd
    rw [breaking]
    dsimp only
    rw [if_neg counted, State.modifyLine_to (LineState.endBreak_of_breaking _ breaking)]

/-! ## SCAN_MISSED -/

theorem exec_scanMissed (start : Half) (s : State) :
    exec (.scanMissed start) s = whilePowered (hostCommand 2 inService (decodeStart start) State.scanMissed) s := rfl

theorem State.scanMissed_none {s : State} {start : Nat} (unmarked : ∀ i < 512, start ≤ i → (s.slotAt i).missed = false) :
    s.scanMissed start = s.complete .notFound [] := by
  have search : (List.range' start (512 - start)).find? (fun i => (s.slotAt i).missed) = none := by
    rw [List.find?_eq_none]
    intro i inRange
    rw [List.mem_range'_1] at inRange
    simp [unmarked i (by omega) inRange.1]
  unfold State.scanMissed
  rw [search]

/-- The marks left once that of one slot has been cleared (R164). -/
theorem State.missedCount_cleared {s : State} {i : Nat} (inTable : i < 512) :
    (s.modifySlot i fun x => { x with missed := false }).missedCount =
      (List.range 512).countP fun j => (s.slotAt j).missed && j != i := by
  unfold State.missedCount
  congr 1
  funext j
  rw [State.slotAt_modifySlot]
  by_cases same : j = i
  · simp [same, inTable]
  · simp [same]

theorem State.scanMissed_first {s : State} {start i : Nat} (inTable : i < 512) (from_ : start ≤ i) (marked : (s.slotAt i).missed = true)
    (first : ∀ j < i, start ≤ j → (s.slotAt j).missed = false) :
    s.scanMissed start = (s.modifySlot i fun x => { x with missed := false }).complete .ok
      (halfBytes (BitVec.ofNat 16 i) ++
        halfBytes (BitVec.ofNat 16 ((List.range 512).countP fun j => (s.slotAt j).missed && j != i))) := by
  have search : (List.range' start (512 - start)).find? (fun i => (s.slotAt i).missed) = some i :=
    find_range'_first from_ (by omega) marked first
  unfold State.scanMissed
  rw [search]
  dsimp only
  rw [State.missedCount_cleared inTable]

/-- Settles O34: by the start, then by the first mark. -/
theorem scanMissedClearsTheFirstMark : Obligations.ScanMissedClearsTheFirstMark := by
  unfold Obligations.ScanMissedClearsTheFirstMark
  intro start s served
  obtain ⟨isOpen, here⟩ := State.servesHost_open served
  refine ⟨fun large => exec_badArgument (exec_scanMissed start) isOpen here (if_neg (by omega)), fun inTable => ?_⟩
  have run := exec_taken (exec_scanMissed start) isOpen here (if_pos (by omega))
  refine ⟨fun unmarked => ?_, fun i below above marked first => ?_⟩
  · rw [run, State.scanMissed_none (s := s.taken 2) unmarked, State.taken_complete]
  · rw [run, State.scanMissed_first (s := s.taken 2) below above marked first]
    rfl

/-! ## The fault capture -/

theorem exec_readFault (s : State) :
    exec .readFault s = whilePowered (hostCommand 0 inService (some ()) fun _ => State.readFault) s := rfl

theorem exec_clearFault (s : State) :
    exec .clearFault s = whilePowered (hostCommand 0 inService (some ()) fun _ => State.clearFault) s := rfl

theorem State.capture_softResetStep (s : State) : s.softResetStep.capture = s.capture := by
  unfold State.softResetStep
  split <;> rfl

/-- Settles O36: the commands, the resets, and the rule of the capture. -/
theorem faultCaptureReadClearAndResets : Obligations.FaultCaptureReadClearAndResets := by
  unfold Obligations.FaultCaptureReadClearAndResets
  intro s
  refine ⟨fun served => ?commands, ⟨_, rfl, rfl⟩, ⟨_, rfl, rfl⟩, ?softReset, fun _ => rfl, fun kept event corrected lost once => ?overwrites,
    fun kept event other => ?keeps, fun _ _ _ => rfl⟩
  case commands =>
    obtain ⟨isOpen, here⟩ := State.servesHost_open served
    exact ⟨exec_taken exec_readFault isOpen here rfl, exec_taken exec_clearFault isOpen here rfl⟩
  case softReset =>
    refine ⟨_, rfl, ?_⟩
    split
    · rfl
    · exact State.capture_softResetStep s
  case overwrites => simp [captureAfter, corrected, lost, once]
  case keeps =>
    unfold captureAfter
    exact if_neg (by rcases other with other | other | other <;> simp [other])

end Sys2Proof.Machine
end

section
/-! PROOFS. The modes: requests, immediate transitions, drains, wake and resume, the soft reset. -/

namespace Sys2Proof.Machine

/-! ## REQUEST_MODE -/

theorem exec_requestMode (target : Byte) (s : State) :
    exec (.requestMode target) s = whilePowered (hostCommand 1 inAnyMode (decodeMode target) State.requestMode) s := rfl

theorem inAnyMode_of_open {s : State} (isOpen : s.portOpen = true) : inAnyMode s.mode = true := by
  obtain ⟨started, -⟩ := State.portClosed_eq_false.1 (State.portOpen_iff.1 isOpen).2
  cases e : s.mode with
  | starting => exact absurd e started
  | _ => rfl

/-- Settles O38: by the argument, then by the branch of REQUEST_MODE. -/
theorem requestModeBeginsATransition : Obligations.RequestModeBeginsATransition := by
  unfold Obligations.RequestModeBeginsATransition
  intro target s isOpen
  have here := inAnyMode_of_open isOpen
  refine ⟨exec_badArgument (exec_requestMode target) isOpen here, fun m decoded => ?_⟩
  rw [exec_taken (exec_requestMode target) isOpen here decoded]
  unfold State.requestMode
  refine ⟨fun settled current => ?current, fun settled standby resumes => ?resumes, fun waits => ?waits⟩
  case current =>
    subst current
    simp only [State.taken_transition, settled, State.taken_mode]
    rfl
  case resumes =>
    have differs : ¬m = s.mode := by rcases resumes with rfl | rfl <;> simp [standby]
    have asks : (s.mode = .standby && (m == .run || m == .listen)) = true := by
      rcases resumes with rfl | rfl <;> simp [standby]
    rw [if_neg (by simp [settled]), if_neg (by exact differs), if_pos (by exact asks)]
    rfl
  case waits =>
    rcases waits with moving | ⟨differs, noResume⟩
    · rw [if_pos (by exact Option.isSome_iff_ne_none.2 moving)]
      rfl
    · by_cases moving : s.transition = none
      · have stays : ¬(s.mode = .standby && (m == .run || m == .listen)) = true := by simpa using noResume
        rw [if_neg (by simp [moving]), if_neg (by exact differs), if_neg (by exact stays)]
        rfl
      · rw [if_pos (by exact Option.isSome_iff_ne_none.2 moving)]
        rfl

/-! ## Immediate transitions -/

/-- The step of an immediate transition that the slot's REQUEST_MODE asks for (R173). -/
theorem exec_immediateTransition {m : Mode} {s : State} (released : s.resetHeld = false) (settled : s.transition = none)
    (asked : s.slot = .pending (.requestMode m)) (moves : isImmediate s.mode m = true) :
    exec .immediateTransition s = .next (s.immediate m).modeReached := by
  refine (whilePowered_released _ released).trans (congrArg _ ?_)
  have request : s.requestedMode = some m := by rw [State.requestedMode, asked]
  unfold State.immediateStep
  rw [request]
  exact if_pos (by simp [settled, moves])

/-! Each immediate transition as the operation that it is (R173). -/

theorem State.immediate_configToStandby {s : State} (config : s.mode = .config) :
    s.immediate .standby = { s with origin := some .config }.enterMode .standby := by
  unfold State.immediate
  split <;> simp_all

theorem State.immediate_ofStandby (m : Mode) {s : State} (standby : s.mode = .standby) :
    s.immediate m = { s with origin := none }.enterMode m := by
  unfold State.immediate
  split <;> simp_all

theorem State.immediate_configToTraffic {m : Mode} {s : State} (config : s.mode = .config) (traffic : m = .run ∨ m = .listen) :
    s.immediate m = s.configToTraffic m := by
  unfold State.immediate
  split <;> simp_all

theorem State.immediate_ofRun (m : Mode) {s : State} (run : s.mode = .run) : s.immediate m = s.runToListen := by
  unfold State.immediate
  split <;> simp_all

theorem State.immediate_ofListen (m : Mode) {s : State} (listen : s.mode = .listen) : s.immediate m = s.enterMode m := by
  unfold State.immediate
  split <;> simp_all

/-- The enable events on entering RUN or LISTEN (R81). -/
theorem State.line_enableLines (s : State) (l : LineId) : s.enableLines.line l =
    if (s.line l).settings.enabled = true then (s.line l).afterEnable s.flowActs else s.line l := by
  unfold State.enableLines
  rw [State.line_mapLines, LineState.enableEvent_eq]

/-- What CONFIG to RUN or LISTEN does apart from the enable events: a requested commit is installed, and the prescale starts (R173). -/
theorem State.configToTraffic_rest (m : Mode) (s : State) (lines : Vector LineState 4) :
    { s.configToTraffic m with lines := lines } = { s with
      lines := lines, mode := m, target := m, prescale := 0,
      active := if s.commitRequested then s.staged else s.active, commitRequested := false } := by
  unfold State.configToTraffic
  cases requested : s.commitRequested
  · rw [if_neg (by decide), if_neg (by decide)]
    exact congrArg (fun b => { s with lines := lines, mode := m, target := m, prescale := 0, commitRequested := b }) requested
  · rfl

theorem State.line_configToTraffic {m : Mode} {s : State} (settled : s.transition = none) (l : LineId) :
    (s.configToTraffic m).line l =
      if (s.line l).settings.enabled = true then (s.line l).afterEnable (m == .run) else s.line l := by
  have acts : ((if s.commitRequested then s.install else s).enterMode m).flowActs = (m == .run) := by
    cases s.commitRequested <;> simp [State.flowActs, State.enterMode, State.install, settled]
  have same : ((if s.commitRequested then s.install else s).enterMode m).line l = s.line l := by
    cases s.commitRequested <;> rfl
  have events := State.line_enableLines ((if s.commitRequested then s.install else s).enterMode m) l
  rw [acts, same] at events
  exact events

/-- Settles O39: one lemma gives the step; each move is then its branch of `immediate`. -/
theorem immediateTransitions : Obligations.ImmediateTransitions := by
  unfold Obligations.ImmediateTransitions
  intro s released settled
  refine ⟨fun config asked => ?_, fun standby asked => ?_, fun listen asked => ?_, fun run asked => ?toListen,
    fun m traffic config asked => ?toTraffic⟩
  · rw [exec_immediateTransition released settled asked (by rw [config]; rfl), State.immediate_configToStandby config]
    rfl
  · rw [exec_immediateTransition released settled asked (by rw [standby]; rfl), State.immediate_ofStandby _ standby]
    rfl
  · rw [exec_immediateTransition released settled asked (by rw [listen]; rfl), State.immediate_ofListen _ listen]
    rfl
  case toListen =>
    rw [exec_immediateTransition released settled asked (by rw [run]; rfl), State.immediate_ofRun _ run]
    exact ⟨_, rfl, rfl, fun l => State.line_mapLines s (fun _ ln => ln.silence) l⟩
  case toTraffic =>
    have moves : isImmediate s.mode m = true := by rw [config]; rcases traffic with rfl | rfl <;> rfl
    have step : s.immediate m = s.configToTraffic m := State.immediate_configToTraffic config traffic
    have rest := State.configToTraffic_rest m s s.lines
    have mode : (s.configToTraffic m).mode = m := congrArg State.mode rest
    refine ⟨_, exec_immediateTransition released settled asked moves, ?_, ?_, ?_, fun l => ?_⟩
    · rw [step, State.modeReached, mode]
      exact congrArg (fun t : State => { t.complete .ok [m.code] with active := s.active, commitRequested := s.commitRequested }) rest
    · rw [step]
      exact congrArg State.active rest
    · rw [step]
      exact congrArg State.commitRequested rest
    · rw [step]
      have line : ((s.configToTraffic m).modeReached).line l = _ := State.line_configToTraffic settled l
      rw [line]
      exact ⟨fun disabled => by simp [disabled], fun enabled => by simp [enabled]⟩

/-! ## Drains -/

/-- The start of the drain that the slot's REQUEST_MODE asks for (R174). -/
theorem exec_drainStart {m : Mode} {s : State} (released : s.resetHeld = false) (settled : s.transition = none)
    (asked : s.slot = .pending (.requestMode m)) (drains : isDrain s.mode m = true) :
    exec .drainStart s = .next (s.startDrain m) := by
  refine (whilePowered_released _ released).trans (congrArg _ ?_)
  have request : s.requestedMode = some m := by rw [State.requestedMode, asked]
  unfold State.drainStep
  rw [request]
  exact if_pos (by simp [settled, drains])

theorem State.queuesEmpty_iff {s : State} : s.queuesEmpty = true ↔ ∀ l, (s.line l).rxQueue = [] := by
  simp [State.queuesEmpty, Fin.forall_fin_succ, and_assoc]

/-- Settles O40: the start by its moves, the end by whether the queues are empty. -/
theorem drainsStartAndEnd : Obligations.DrainsStartAndEnd := by
  unfold Obligations.DrainsStartAndEnd
  intro s released
  refine ⟨fun m settled traffic target asked => ?starts, fun draining emptied => ?ends, fun draining frames => ?waits⟩
  case starts =>
    have drains : isDrain s.mode m = true := by
      rcases traffic with mode | mode <;> rcases target with rfl | rfl <;> rw [mode] <;> rfl
    exact ⟨_, exec_drainStart released settled asked drains, rfl, fun l => State.line_mapLines s (fun _ ln => ln.drained) l⟩
  case ends =>
    refine (whilePowered_released _ released).trans (congrArg _ ?_)
    unfold State.drainEndStep
    rw [if_pos (by simp [draining, State.queuesEmpty_iff.2 emptied])]
    unfold State.endDrain
    simp only [beq_iff_eq]
    rfl
  case waits =>
    obtain ⟨l, frame⟩ := frames
    have notEmpty : ¬s.queuesEmpty = true := fun emptied => frame (State.queuesEmpty_iff.1 emptied l)
    exact (whilePowered_released _ released).trans (congrArg _ (if_neg (by simp [notEmpty])))

/-! ## Wake and resume -/

theorem exec_wakeEvent (l : LineId) {s : State} (released : s.resetHeld = false) : exec (.wakeEvent l) s = .next (s.wake l) :=
  whilePowered_released _ released

theorem State.requestedMode_none {s : State} (noRequest : ∀ r, s.slot ≠ .pending (.requestMode r)) : s.requestedMode = none := by
  unfold State.requestedMode
  split
  · rename_i r asked
    exact absurd asked (noRequest r)
  · rfl

/-- A wake event that no watch, or a transition, rules out is ignored (R176). -/
theorem State.wake_ignored {l : LineId} {s : State} (ruledOut : s.watched l = false ∨ s.transition ≠ none) : s.wake l = s := by
  unfold State.wake
  exact if_neg (by rcases ruledOut with h | h <;> simp [h])

/-- The request of a mode that has been reached is answered; another stays (R175). -/
theorem State.settleRequest_eq (s : State) : s.settleRequest = { s with
    slot := if s.slot = .pending (.requestMode s.mode) then .done .ok [s.mode.code] else s.slot } := by
  unfold State.settleRequest State.requestedMode
  split
  · rename_i asked e
    split at e
    · rename_i r slot
      cases e
      rw [slot]
      by_cases reached : asked = s.mode
      · rw [if_pos reached, if_pos (by rw [reached])]
        rfl
      · rw [if_neg reached, if_neg (by simpa using reached), ← slot]
    · cases e
  · rename_i e
    split at e
    · cases e
    · rename_i other
      rw [if_neg (other _)]

/-- The state in which a resume has entered the target mode, before the enable events (R175). -/
def State.resumed (s : State) : State := { s with origin := none, transition := none }.enterMode s.target

theorem State.flowActs_resumed (s : State) : s.resumed.flowActs = (s.target == .run) := by
  simp [State.flowActs, State.resumed, State.enterMode]

/-- Settles O41: a wake by what rules it out, a resume as the entry of its target mode with the enable events. -/
theorem wakeAndResume : Obligations.WakeAndResume := by
  unfold Obligations.WakeAndResume
  intro l s released standby
  refine ⟨fun m origin traffic wake enabled settled noRequest => ?wakes, fun resuming => ?resuming, fun config => ?config,
    fun resuming traffic => ?resumes⟩
  case wakes =>
    have watched : s.watched l = true := by
      rcases traffic with rfl | rfl <;> simp [State.watched, standby, origin, wake, enabled]
    have target : s.origin.getD s.mode = m := by rw [origin]; rfl
    rw [exec_wakeEvent l released, State.wake, if_pos (by simp [watched, settled, State.requestedMode_none noRequest]), target]
    rfl
  case resuming => rw [exec_wakeEvent l released, State.wake_ignored (.inr (by simp [resuming]))]
  case config => rw [exec_wakeEvent l released, State.wake_ignored (.inl (by simp [State.watched, config]))]
  case resumes =>
    have run : exec .resumeComplete s = .next s.resumed.enableLines.startTicks.settleRequest :=
      (whilePowered_released _ released).trans (congrArg _ (if_pos resuming))
    rw [State.settleRequest_eq] at run
    refine ⟨_, run, rfl, fun k => ?_⟩
    have line := State.line_enableLines s.resumed k
    rw [State.flowActs_resumed, show s.resumed.line k = s.line k from rfl] at line
    refine ⟨fun disabled => ?_, fun enabled => ?_, fun enabled silent quiet => ?_⟩
    · exact line.trans (if_neg (by simp [disabled]))
    · exact line.trans (if_pos enabled)
    · refine (congrArg LineState.rx (line.trans (if_pos enabled))).trans ?_
      simp [LineState.afterEnable, silent, quiet]

/-! ## The soft reset -/

theorem Slot.softReset_reset : Slot.reset.softReset = Slot.reset := rfl

theorem State.slotAt_softReset (s : State) (i : Nat) : s.softResetNow.slotAt i = (s.slotAt i).softReset := by
  have same : s.softResetNow.slotAt i = ((s.mapLines fun _ ln => ln.softReset).mapSlots Slot.softReset).slotAt i := rfl
  by_cases inTable : i < 512
  · rw [same, State.slotAt_mapSlots, if_pos inTable]
    rfl
  · rw [State.slotAt_of_le _ (by omega), State.slotAt_of_le s (by omega), Slot.softReset_reset]

/-- A learned record is retired by a soft reset, its missed mark too (R23, R178). -/
theorem Slot.softReset_learned {x : Slot} (learned : x.isLearned = true) : x.softReset =
    { state := .empty, kind := none, gen := x.gen, key := none, held := false, expiredHold := false, missed := false,
      body := Body.empty, integrity := .clean } := by
  unfold Slot.isLearned at learned
  unfold Slot.softReset
  rw [if_pos learned]
  rfl

/-- A record that is not learned is kept: the stamps of a visible one are rewritten (R23, R178). -/
theorem Slot.softReset_kept {x : Slot} (other : x.isLearned = false) : x.softReset = { x with
    held := false, expiredHold := false, missed := false
    body := if x.visible then { x.body with
      stamp := 0, nextDue := if x.kind = some .exported then x.body.period.setWidth 32 else x.body.nextDue } else x.body } := by
  unfold Slot.isLearned at other
  unfold Slot.softReset
  simp only [other, Bool.false_eq_true, if_false]
  cases x.visible <;> rfl

theorem exec_reset (s : State) :
    exec .reset s = whilePowered (hostCommand 0 inAnyMode (some ()) fun _ t => { t with slot := .pending .reset }) s := rfl

/-- Settles O42: each slot by whether its record is learned, then by whether it is visible. -/
theorem softResetAsOneStep : Obligations.SoftResetAsOneStep := by
  unfold Obligations.SoftResetAsOneStep
  intro s
  refine ⟨fun isOpen => exec_taken exec_reset isOpen (inAnyMode_of_open isOpen) rfl, fun released asked => ?_⟩
  have run : exec .softReset s = .next s.softResetNow := (whilePowered_released _ released).trans (congrArg _ (if_pos asked))
  refine ⟨_, run, rfl, fun l => State.line_mapLines s (fun _ ln => ln.softReset) l, fun i => ?_⟩
  rw [State.slotAt_softReset]
  cases kind : (s.slotAt i).isLearned with
  | true => simp [Slot.softReset_learned kind]
  | false =>
    rw [Slot.softReset_kept kind]
    refine ⟨rfl, rfl, rfl, rfl, (by intro learned; cases learned), fun _ => ⟨rfl, rfl, rfl, rfl⟩, fun _ hidden => ?_, fun _ seen => ?_⟩
    · simp [hidden]
    · simp [seen]

end Sys2Proof.Machine
end

section
/-! PROOFS. Ticks, and the visits of the sweep. -/

namespace Sys2Proof.Machine

/-! ## Ticks -/

/-- The state of a tick before the sweep control acts (R116, R71). -/
def State.ticked (s : State) : State :=
  State.mapLines (fun _ ln => ln.expirePauses (s.tick + 1)) { s with tick := s.tick + 1, prescale := 0 }

theorem State.line_ticked (s : State) (l : LineId) : s.ticked.line l = (s.line l).expirePauses (s.tick + 1) :=
  State.line_mapLines { s with tick := s.tick + 1, prescale := 0 } (fun _ ln => ln.expirePauses (s.tick + 1)) l

/-- The sweep control leaves the tick unit and the lines. -/
theorem State.sweepControl_keeps (t : State) :
    t.sweepControl.tick = t.tick ∧ t.sweepControl.prescale = t.prescale ∧ ∀ l, t.sweepControl.line l = t.line l := by
  rw [State.sweepControl_cases]
  repeat' split
  all_goals exact ⟨rfl, rfl, fun _ => rfl⟩

theorem State.takesFrames_of {s : State} (traffic : s.mode = .run ∨ s.mode = .listen) : s.takesFrames = true := by
  rcases traffic with mode | mode <;> simp [State.takesFrames, mode]

/-- Settles O43: by the branch of the sweep control. -/
theorem ticksStartAndOweSweeps : Obligations.TicksStartAndOweSweeps := by
  unfold Obligations.TicksStartAndOweSweeps
  intro s released traffic
  obtain ⟨tick, prescale, lines⟩ := s.ticked.sweepControl_keeps
  have cases := s.ticked.sweepControl_cases
  refine ⟨s.ticked.sweepControl, exec_tick_runs released (State.takesFrames_of traffic), tick, prescale,
    fun l => (lines l).trans (s.line_ticked l), fun drain => ?drains, fun settled idle => ?starts, fun settled busy free => ?owes,
    fun settled busy owed => ?overruns⟩
  case drains =>
    rw [cases, if_pos (by exact drain)]
    rfl
  case starts =>
    rw [cases, if_neg (by exact settled), if_pos (by exact idle)]
    rfl
  case owes =>
    have notOwed : ¬s.ticked.sweepOwed = true := by rw [Bool.not_eq_true]; exact free
    rw [cases, if_neg (by exact settled), if_neg (by exact busy), if_neg notOwed]
    rfl
  case overruns =>
    rw [cases, if_neg (by exact settled), if_neg (by exact busy), if_pos (by exact owed)]
    rfl

/-! ## What a visit does not read -/

/-- An operation that neither reads nor writes the arbiter's counters. -/
def arbBlind (f : State → State) : Prop := ∀ s a, f { s with arb := a } = { f s with arb := a }

theorem arbBlind.comp {f g : State → State} (hf : arbBlind f) (hg : arbBlind g) : arbBlind fun s => g (f s) := fun s a =>
  (congrArg g (hf s a)).trans (hg (f s) a)

theorem arbBlind_post (h : Handle) (k : NoticeKind) : arbBlind (State.post h k) := fun s a => by
  unfold State.post
  rw [show ({ s with arb := a } : State).hasNotice h = s.hasNotice h from rfl]
  repeat' split
  all_goals rfl

theorem arbBlind_postIf (c : Bool) (h : Handle) (k : NoticeKind) : arbBlind (State.postIf c h k) := fun s a => by
  unfold State.postIf
  split
  · exact arbBlind_post h k s a
  · rfl

theorem arbBlind_applyUpdate (i : Nat) (v : List Byte) (n : Byte) (m : Tick) : arbBlind (State.applyUpdate i v n m) := fun s a =>
  ((arbBlind_postIf ((s.slotAt i).state == .stale && (s.slotAt i).body.edge) (s.handleAt i) .recovered).comp
    (arbBlind_postIf ((s.slotAt i).body.updateNotice.asks (s.slotAt i).body.value v) (s.handleAt i) .changed))
    (s.setSlot i ((s.slotAt i).updated v n m)) a

theorem arbBlind_retireWith (k : NoticeKind) (i : Nat) : arbBlind (State.retireWith k i) := fun s a =>
  arbBlind_post (s.handleAt i) k (s.retire i) a

theorem arbBlind_checkBody (q : FaultSource) (i : Nat) : arbBlind (State.checkBody q i) := fun s a => by
  unfold State.checkBody
  rw [show ({ s with arb := a } : State).slotAt i = s.slotAt i from rfl]
  cases (s.slotAt i).integrity with
  | clean => rfl
  | single => rfl
  | double =>
    dsimp only
    split
    · rfl
    · exact congrArg (fun t : State => (t.raise .faultUncorrectable).offerCapture false q i)
        (arbBlind_post (s.handleAt i) .faulted
          (((s.modifySlot i fun x => { x with state := .faulted }).dropHold i).dropPublish (s.handleAt i)) a)

theorem arbBlind_ageSlot (n : Tick) (i : Nat) : arbBlind (State.ageSlot n i) := fun s a => by
  unfold State.ageSlot
  rw [show ({ s with arb := a } : State).slotAt i = s.slotAt i from rfl]
  dsimp only
  split
  · exact arbBlind_postIf (s.slotAt i).body.edge (s.handleAt i) .stale (s.modifySlot i fun y => { y with state := .stale }) a
  · rfl

theorem arbBlind_applyPending (i : Nat) (u : Option PendingUpdate) : arbBlind (State.applyPending i u) := fun s a => by
  cases u with
  | none => rfl
  | some u => exact arbBlind_applyUpdate i u.value u.source u.stamp s a

theorem arbBlind_expireHold (n : Tick) (i : Nat) : arbBlind (State.expireHold n i) := fun s a => by
  unfold State.expireHold
  rw [show ({ s with arb := a } : State).holdOf i = s.holdOf i from rfl]
  split
  · rename_i e _
    split
    · rw [arbBlind_applyPending i e.update s a]
      exact arbBlind_post (s.handleAt i) .holdExpired
        (((s.applyPending i e.update).dropHold i).modifySlot i fun y => { y with expiredHold := true }) a
    · rfl
  · rfl

theorem arbBlind_evictByAge (n : Tick) (i : Nat) : arbBlind (State.evictByAge n i) := fun s a => by
  unfold State.evictByAge
  rw [show ({ s with arb := a } : State).slotAt i = s.slotAt i from rfl]
  dsimp only
  split
  · exact arbBlind_retireWith (.evicted .age) i s a
  · rfl

theorem arbBlind_publishDue (n : Tick) (i : Nat) : arbBlind (State.publishDue n i) := fun s a => by
  unfold State.publishDue
  rw [show ({ s with arb := a } : State).slotAt i = s.slotAt i from rfl]
  dsimp only
  repeat' split
  all_goals rfl

theorem arbBlind_judgeSlot (n : Tick) (i : Nat) : arbBlind (State.judgeSlot n i) := fun s a => by
  have aged := ((arbBlind_ageSlot n i).comp (arbBlind_expireHold n i)) s a
  unfold State.judgeSlot
  rw [show ({ s with arb := a } : State).slotAt i = s.slotAt i from rfl]
  dsimp only at aged ⊢
  rw [aged]
  split
  · rw [arbBlind_evictByAge n i, arbBlind_publishDue n i]
  · rw [arbBlind_publishDue n i]

theorem arbBlind_visitSlot (n : Tick) (i : Nat) : arbBlind (State.visitSlot n i) := fun s a => by
  unfold State.visitSlot
  rw [show ({ s with arb := a } : State).slotAt i = s.slotAt i from rfl,
    show ({ s with arb := a } : State).bodyLost i = s.bodyLost i from rfl, arbBlind_checkBody]
  dsimp only
  repeat' split
  · rfl
  · rfl
  · exact arbBlind_judgeSlot n i (s.checkBody .sweep i) a

/-! ## The visit as a whole -/

/-- The move of the sweep sets the sweep-wait count to 0 itself (R50). -/
theorem State.sweptPast_grantSweep (w : Sweep) (s : State) :
    State.sweptPast w { s with arb := { s.arb with sweepWait := 0 } } = s.sweptPast w := rfl

/-- A granted visit is the work on its slot, and then the move of the sweep (R122, R123). -/
theorem exec_sweepVisit {w : Sweep} {s : State} (released : s.resetHeld = false) (sweeping : s.sweep = some w)
    (granted : s.grantNext = some .sweep) : exec .sweepVisit s = .next ((s.visitSlot w.now w.pos).sweptPast w) := by
  refine (whilePowered_released _ released).trans (congrArg _ ?_)
  have arb : (s.visitSlot w.now w.pos).arb = s.arb :=
    (congrArg State.arb (arbBlind_visitSlot w.now w.pos s s.arb)).trans rfl
  have visited : s.grantSweep.visitSlot w.now w.pos = (s.visitSlot w.now w.pos).grantSweep := by
    have blind := arbBlind_visitSlot w.now w.pos s { s.arb with sweepWait := 0 }
    rw [State.grantSweep, State.grantSweep, arb]
    exact blind
  rw [State.sweepStep_granted sweeping granted, visited, State.advanceSweep_eq rfl, State.grantSweep, State.sweptPast_grantSweep]

/-! What the move of the sweep leaves alone. -/

theorem State.sweptPast_keeps (w : Sweep) (s : State) :
    (s.sweptPast w).slots = s.slots ∧ (s.sweptPast w).holds = s.holds ∧ (s.sweptPast w).lines = s.lines ∧
    (s.sweptPast w).notices = s.notices ∧ (s.sweptPast w).conditions = s.conditions ∧ (s.sweptPast w).capture = s.capture := by
  unfold State.sweptPast
  dsimp only
  repeat' split
  all_goals exact ⟨rfl, rfl, rfl, rfl, rfl, rfl⟩

theorem State.slotAt_sweptPast (w : Sweep) (s : State) (i : Nat) : (s.sweptPast w).slotAt i = s.slotAt i :=
  State.slotAt_eq_of_slots (s.sweptPast_keeps w).1 i

theorem State.holds_sweptPast (w : Sweep) (s : State) : (s.sweptPast w).holds = s.holds := (s.sweptPast_keeps w).2.1

theorem State.line_sweptPast (w : Sweep) (s : State) (l : LineId) : (s.sweptPast w).line l = s.line l := by
  obtain ⟨-, -, lines, -⟩ := s.sweptPast_keeps w
  rw [State.line, lines, State.line]

theorem State.notices_sweptPast (w : Sweep) (s : State) : (s.sweptPast w).notices = s.notices := (s.sweptPast_keeps w).2.2.2.1
theorem State.conditions_sweptPast (w : Sweep) (s : State) : (s.sweptPast w).conditions = s.conditions := (s.sweptPast_keeps w).2.2.2.2.1
theorem State.capture_sweptPast (w : Sweep) (s : State) : (s.sweptPast w).capture = s.capture := (s.sweptPast_keeps w).2.2.2.2.2

end Sys2Proof.Machine
end

section
/-! PROOFS. What a visit of the sweep makes of its slot, and the statement of the visits. -/

namespace Sys2Proof.Machine

/-! ## The move of the sweep and the rest of the state -/

theorem State.sweptPast_table (w : Sweep) (s : State) (a : Vector Slot 512) (b : List HoldEntry) (c : Vector LineState 4) (d : List Notice)
    (e : Conditions) : { s.sweptPast w with slots := a, holds := b, lines := c, notices := d, conditions := e } =
      State.sweptPast w { s with slots := a, holds := b, lines := c, notices := d, conditions := e } := by
  unfold State.sweptPast
  dsimp only
  repeat' split
  all_goals rfl

theorem State.sweptPast_records (w : Sweep) (s : State) (a : Vector Slot 512) (b : List HoldEntry) (d : List Notice) (e : Conditions) :
    { s.sweptPast w with slots := a, holds := b, notices := d, conditions := e } =
      State.sweptPast w { s with slots := a, holds := b, notices := d, conditions := e } := by
  unfold State.sweptPast
  dsimp only
  repeat' split
  all_goals rfl

theorem State.sweptPast_lines (w : Sweep) (s : State) (c : Vector LineState 4) :
    { s.sweptPast w with lines := c } = State.sweptPast w { s with lines := c } := by
  unfold State.sweptPast
  dsimp only
  repeat' split
  all_goals rfl

/-! ## Ageing -/

theorem State.agedInSweep_keeps (n : Tick) (i : Nat) (s : State) :
    (s.agedInSweep n i).holds = s.holds ∧ (s.agedInSweep n i).lines = s.lines ∧ (s.agedInSweep n i).mode = s.mode ∧
    (s.agedInSweep n i).learnedExpiry = s.learnedExpiry ∧ (s.agedInSweep n i).capture = s.capture := by
  have rest := State.agedInSweep_rest n i s s.slots s.notices s.conditions
  exact ⟨(congrArg State.holds rest :), (congrArg State.lines rest :), (congrArg State.mode rest :),
    (congrArg State.learnedExpiry rest :), (congrArg State.capture rest :)⟩

theorem State.holdOf_agedInSweep (n : Tick) (i : Nat) (s : State) : (s.agedInSweep n i).holdOf i = s.holdOf i := by
  rw [State.holdOf, (s.agedInSweep_keeps n i).1, State.holdOf]

theorem State.line_agedInSweep (n : Tick) (i : Nat) (s : State) (l : LineId) : (s.agedInSweep n i).line l = s.line l := by
  rw [State.line, (s.agedInSweep_keeps n i).2.1, State.line]

theorem State.handleAt_agedInSweep {n : Tick} {i : Nat} {s : State} (inTable : i < 512) :
    (s.agedInSweep n i).handleAt i = s.handleAt i := by
  obtain ⟨state, missed, slot⟩ := State.slotAt_agedInSweep (n := n) (s := s) inTable
  rw [State.handleAt, slot, State.handleAt]

/-- Ageing leaves a record that cannot go STALE (R124). -/
theorem State.agedInSweep_leaves {n : Tick} {i : Nat} {s : State}
    (leaves : ((s.slotAt i).state == .new || (s.slotAt i).state == .fresh) = false ∨ (s.slotAt i).body.limit = 0 ∨
      age (s.slotAt i).body.stamp n < (s.slotAt i).body.limit.toNat) : s.agedInSweep n i = s := by
  rw [← State.ageSlot_eq, State.ageSlot_leaves leaves]

/-! ## The end of a hold in a visit -/

/-- A hold that is younger than its limit, or none, does not expire (R157). -/
theorem State.expireHold_young {n : Tick} {i : Nat} {t : State} (young : ∀ e, t.holdOf i = some e → age e.start n < e.limit.toNat) :
    t.expireHold n i = t := by
  unfold State.expireHold
  split
  · rename_i e held
    have := young e held
    exact if_neg (by omega)
  · rfl

/-- The expiry of a hold with its pending update (R157). -/
def State.holdOver (i : Nat) (u : Option PendingUpdate) (t : State) : State :=
  (((t.applyPending i u).dropHold i).modifySlot i fun y => { y with expiredHold := true }).post (t.handleAt i) .holdExpired

theorem State.expireHold_over {n : Tick} {i : Nat} {t : State} {e : HoldEntry} (held : t.holdOf i = some e)
    (expired : e.limit.toNat ≤ age e.start n) : t.expireHold n i = t.holdOver i e.update := by
  unfold State.expireHold
  rw [held]
  exact if_pos expired

/-- What an expiry posts is what the applied update and then HOLD_EXPIRED post. -/
theorem State.postsAlike_holdOver (i : Nat) (u : Option PendingUpdate) (t : State) :
    (t.holdOver i u).postsAlike ((t.applyPending i u).post (t.handleAt i) .holdExpired) :=
  State.postsAlike_post _ _ (State.postsAlike_trans
    (State.postsAlike_setSlot (s := (t.applyPending i u).dropHold i) rfl) (State.postsAlike_dropHold i (t.applyPending i u)))

theorem State.slotAt_applyPending_ne {i j : Nat} (u : Option PendingUpdate) (t : State) (other : j ≠ i) :
    (t.applyPending i u).slotAt j = t.slotAt j := by
  cases u with
  | none => rfl
  | some u => exact State.slotAt_applyUpdate_ne _ _ _ t other

theorem State.slotAt_holdOver_ne {i j : Nat} (u : Option PendingUpdate) (t : State) (other : j ≠ i) :
    (t.holdOver i u).slotAt j = t.slotAt j := by
  unfold State.holdOver
  rw [State.slotAt_post_ne _ _ _ other, State.slotAt_modifySlot_ne _ _ other, State.slotAt_dropHold, if_neg (by simp [other]),
    State.slotAt_applyPending_ne u t other]

theorem State.slotAt_holdOver {i : Nat} (u : Option PendingUpdate) (t : State) (inTable : i < 512) :
    (t.holdOver i u).slotAt i = { (t.applyPending i u).slotAt i with
      held := false, expiredHold := true,
      missed := (((t.applyPending i u).post (t.handleAt i) .holdExpired).slotAt i).missed } := by
  have posted := State.slotAt_post (t.handleAt i) .holdExpired
    (((t.applyPending i u).dropHold i).modifySlot i fun y => { y with expiredHold := true }) i
  rw [State.slotAt_modifySlot_self _ _ inTable, State.slotAt_dropHold, if_pos ⟨rfl, inTable⟩] at posted
  rw [← (State.postsAlike_holdOver i u t).2.2.2 i]
  exact posted

theorem State.holds_holdOver (i : Nat) (u : Option PendingUpdate) (t : State) :
    (t.holdOver i u).holds = t.holds.filter fun e => e.slot != i := by
  simp [State.holdOver, State.dropHold]

/-- An expiry writes the slots, the holds, the notices and the conditions alone. -/
theorem State.holdOver_rest (i : Nat) (u : Option PendingUpdate) (t : State) (a : Vector Slot 512) (b : List HoldEntry) (d : List Notice)
    (e : Conditions) : { t.holdOver i u with slots := a, holds := b, notices := d, conditions := e } =
      { t with slots := a, holds := b, notices := d, conditions := e } := by
  unfold State.holdOver
  apply State.ext <;> simp

theorem State.line_holdOver (i : Nat) (u : Option PendingUpdate) (t : State) (l : LineId) : (t.holdOver i u).line l = t.line l :=
  (congrArg (fun v : State => v.line l) (State.holdOver_rest i u t t.slots t.holds t.notices t.conditions) :)

theorem State.mode_holdOver (i : Nat) (u : Option PendingUpdate) (t : State) : (t.holdOver i u).mode = t.mode :=
  (congrArg State.mode (State.holdOver_rest i u t t.slots t.holds t.notices t.conditions) :)

/-! ## Publication in a visit -/

/-- What is not an EXPORT record that is due is not published (R125). -/
theorem State.publishDue_notDue {n : Tick} {i : Nat} {t : State}
    (notDue : (t.slotAt i).kind ≠ some .exported ∨ (t.slotAt i).body.period = 0 ∨ dueCome (t.slotAt i).body.nextDue n = false) :
    t.publishDue n i = t := by
  unfold State.publishDue
  dsimp only
  exact if_neg (by rcases notDue with h | h | h <;> simp [h])

theorem State.publishDue_due {n : Tick} {i : Nat} {t : State} (exported : (t.slotAt i).kind = some .exported)
    (periodic : (t.slotAt i).body.period ≠ 0) (due : dueCome (t.slotAt i).body.nextDue n = true) :
    t.publishDue n i = (if t.mode = .run then t.publish i else t).modifySlot i (Slot.scheduled n) := by
  unfold State.publishDue
  dsimp only
  exact if_pos (by simpa [exported, due] using periodic)

/-- The slot of a publication that is due has the next due advanced (R125). -/
theorem State.publishDue_rest {n : Tick} {i : Nat} {t : State} (exported : (t.slotAt i).kind = some .exported)
    (periodic : (t.slotAt i).body.period ≠ 0) (due : dueCome (t.slotAt i).body.nextDue n = true) :
    { t.publishDue n i with lines := t.lines } = t.modifySlot i (Slot.scheduled n) := by
  rw [State.publishDue_due exported periodic due]
  split <;> rfl

theorem State.line_publishDue {n : Tick} {i : Nat} {t : State} (exported : (t.slotAt i).kind = some .exported)
    (periodic : (t.slotAt i).body.period ≠ 0) (due : dueCome (t.slotAt i).body.nextDue n = true) (l : LineId) :
    (t.publishDue n i).line l = if t.mode = .run then t.publishedOn i (t.slotAt i) l else t.line l := by
  rw [State.publishDue_due exported periodic due]
  split
  · exact State.line_publish i t l
  · rfl

/-! ## The work of a visit -/

theorem State.visitSlot_faulted {n : Tick} {i : Nat} {s : State} (faulted : (s.slotAt i).state = .faulted) : s.visitSlot n i = s := by
  unfold State.visitSlot
  exact if_pos faulted

/-- A clean record that age eviction cannot reach is aged, its hold is judged, and it is published (R123). -/
theorem State.visitSlot_unevictable {n : Tick} {i : Nat} {s : State} (clean : (s.slotAt i).integrity = .clean)
    (occupied : (s.slotAt i).state ≠ .empty) (sound : (s.slotAt i).state ≠ .faulted) (kept : (s.slotAt i).evictable = false) :
    s.visitSlot n i = ((s.agedInSweep n i).expireHold n i).publishDue n i := by
  rw [State.visitSlot_judges clean occupied sound, State.judgeSlot, State.ageSlot_eq, kept]
  rfl

/-- As `visitSlot_unevictable`, where no hold expires. -/
theorem State.visitSlot_unexpired {n : Tick} {i : Nat} {s : State} (clean : (s.slotAt i).integrity = .clean)
    (occupied : (s.slotAt i).state ≠ .empty) (sound : (s.slotAt i).state ≠ .faulted) (kept : (s.slotAt i).evictable = false)
    (young : ∀ e, s.holdOf i = some e → age e.start n < e.limit.toNat) :
    s.visitSlot n i = (s.agedInSweep n i).publishDue n i := by
  rw [State.visitSlot_unevictable clean occupied sound kept, State.expireHold_young (by rw [State.holdOf_agedInSweep]; exact young)]

/-- A visit that finds a single error goes on from the corrected record (R54). -/
theorem State.visitSlot_corrected {n : Tick} {i : Nat} {s : State} (sound : (s.slotAt i).state ≠ .faulted)
    (single : (s.slotAt i).integrity = .single) : s.visitSlot n i = (s.corrected .sweep i).visitSlot n i := by
  have inTable : i < 512 := by
    by_contra outside
    rw [State.slotAt_of_le _ (by omega)] at single
    cases single
  have slot := State.slotAt_corrected .sweep (s := s) inTable
  unfold State.visitSlot
  dsimp only
  rw [State.checkBody_corrected _ single, State.bodyLost_single single, State.checkBody_clean (s := s.corrected .sweep i) _ (by rw [slot]),
    State.bodyLost_clean (s := s.corrected .sweep i) (by rw [slot]), slot, if_neg sound]
  exact (if_neg sound).symm

/-- A visit that finds a double error in an EMPTY slot repairs it (R57). -/
theorem State.visitSlot_repairs {n : Tick} {i : Nat} {s : State} (isEmpty : (s.slotAt i).state = .empty)
    (double : (s.slotAt i).integrity = .double) : s.visitSlot n i =
      { s.withSlot i { s.slotAt i with body := Body.empty, integrity := .clean } with
        conditions := { s.conditions with faultUncorrectable := true },
        capture := captureAfter s.capture
          { corrected := false, slot := i, gen := (s.slotAt i).gen, source := .sweep, tick := s.tick, overwritten := false } } := by
  have gen : ((s.withSlot i { s.slotAt i with body := Body.empty, integrity := .clean }).slotAt i).gen = (s.slotAt i).gen := by
    rw [show (s.withSlot i _).slotAt i = _ from State.slotAt_setSlot s i i _]
    split <;> rfl
  unfold State.visitSlot
  rw [if_neg (by simp [isEmpty])]
  dsimp only
  rw [if_pos (by simp [isEmpty]), State.checkBody_double_empty _ double isEmpty]
  unfold State.offerCapture State.modifySlot
  dsimp only
  rw [show ((State.raise .faultUncorrectable (s.setSlot i { s.slotAt i with body := Body.empty, integrity := .clean })).slotAt i).gen =
    (s.slotAt i).gen from gen]
  rfl

/-- A visit that finds a double error in a record loses it (R55). -/
theorem State.visitSlot_lost {n : Tick} {i : Nat} {s : State} (occupied : (s.slotAt i).state ≠ .empty)
    (sound : (s.slotAt i).state ≠ .faulted) (double : (s.slotAt i).integrity = .double) : s.visitSlot n i = s.lostRecord .sweep i := by
  unfold State.visitSlot
  rw [if_neg sound]
  dsimp only
  rw [if_pos (by simp [State.bodyLost_iff.2 double]), State.checkBody_double _ double occupied,
    State.makeFaulted_eq _ (State.lt_of_occupied occupied)]

/-- A visit retires a STALE learned record that is not held at the learned expiry (R125). -/
theorem State.visitSlot_evicts {n : Tick} {i : Nat} {s : State} (clean : (s.slotAt i).integrity = .clean)
    (stale : (s.slotAt i).state = .stale) (unheld : s.holdOf i = none) (learned : (s.slotAt i).kind = some .learned)
    (free : (s.slotAt i).held = false) (set : s.learnedExpiry ≠ 0) (old : s.learnedExpiry.toNat ≤ age (s.slotAt i).body.stamp n) :
    s.visitSlot n i = s.retireWith (.evicted .age) i := by
  have aged : s.agedInSweep n i = s := State.agedInSweep_leaves (.inl (by rw [stale]; rfl))
  have inTable : i < 512 := State.lt_of_occupied (by rw [stale]; decide)
  have evictable : (s.slotAt i).evictable = true := by simp [Slot.evictable, learned, stale, free]
  have evicts : s.evictByAge n i = s.retireWith (.evicted .age) i := if_pos (by simpa [old] using set)
  rw [State.visitSlot_judges clean (by rw [stale]; decide) (by rw [stale]; decide), State.judgeSlot, State.ageSlot_eq, aged,
    State.expireHold_none unheld, if_pos evictable, evicts]
  refine State.publishDue_notDue (.inl ?_)
  rw [State.slotAt_retireWith, if_pos ⟨rfl, inTable⟩]
  exact fun e => by cases e

/-- A visit leaves a STALE record that is not held, is not published, and is not evicted (R125). -/
theorem State.visitSlot_staleStays {n : Tick} {i : Nat} {s : State} (clean : (s.slotAt i).integrity = .clean)
    (stale : (s.slotAt i).state = .stale) (unheld : s.holdOf i = none) (imported : (s.slotAt i).kind ≠ some .exported)
    (stays : (s.slotAt i).kind ≠ some .learned ∨ (s.slotAt i).held = true ∨ s.learnedExpiry = 0 ∨
      age (s.slotAt i).body.stamp n < s.learnedExpiry.toNat) : s.visitSlot n i = s := by
  have aged : s.agedInSweep n i = s := State.agedInSweep_leaves (.inl (by rw [stale]; rfl))
  rw [State.visitSlot_judges clean (by rw [stale]; decide) (by rw [stale]; decide), State.judgeSlot, State.ageSlot_eq, aged,
    State.expireHold_none unheld]
  have kept : (if (s.slotAt i).evictable = true then s.evictByAge n i else s) = s := by
    rcases stays with other | held | unset | young
    · exact if_neg (by simp [Slot.evictable, other])
    · exact if_neg (by simp [Slot.evictable, held])
    · have stay : s.evictByAge n i = s := if_neg (by simp [unset])
      rw [stay, ite_self]
    · have stay : s.evictByAge n i = s := if_neg (by simp [young])
      rw [stay, ite_self]
  rw [kept, State.publishDue_notDue (.inl imported)]

end Sys2Proof.Machine
end

section
/-! PROOFS. The statement of the sweep's visits. -/

namespace Sys2Proof.Machine

/-! ## The slot of a visit -/

theorem Slot.scheduled_of_clean {n : Tick} {x : Slot} (clean : x.integrity = .clean) :
    x.scheduled n = { x with body := { x.body with nextDue := n + x.body.period.setWidth 32 } } := by
  rw [Slot.scheduled, ← clean]

/-- What a publication reads of its slot and its state (R131). -/
theorem State.publishedOn_congr {s t : State} {i : Nat} {x y : Slot} {l : LineId} (line : t.line l = s.line l)
    (handle : t.handleAt i = s.handleAt i) (state : x.state = y.state) (body : x.body = y.body) :
    t.publishedOn i x l = s.publishedOn i y l := by
  unfold State.publishedOn
  rw [line, handle, state, body]

/-- A publication that is due writes its slot and the lines alone. -/
theorem State.publishDue_keeps {n : Tick} {i : Nat} {t : State} (exported : (t.slotAt i).kind = some .exported)
    (periodic : (t.slotAt i).body.period ≠ 0) (due : dueCome (t.slotAt i).body.nextDue n = true) :
    (∀ j, (t.publishDue n i).slotAt j = (t.modifySlot i (Slot.scheduled n)).slotAt j) ∧ (t.publishDue n i).holds = t.holds ∧
    (t.publishDue n i).notices = t.notices ∧ (t.publishDue n i).conditions = t.conditions := by
  have rest := State.publishDue_rest exported periodic due
  exact ⟨State.slotAt_eq_of_slots (congrArg State.slots rest :), (congrArg State.holds rest :), (congrArg State.notices rest :),
    (congrArg State.conditions rest :)⟩

/-- An expiry that applies a pending update (R94, R157). -/
theorem State.slotAt_holdOver_update {i : Nat} (u : PendingUpdate) (t : State) (inTable : i < 512) :
    (t.holdOver i (some u)).slotAt i = { (t.slotAt i).updated u.value u.source u.stamp with
      held := false, expiredHold := true,
      missed := (((t.updateNotices i u.value).post (t.handleAt i) .holdExpired).slotAt i).missed } := by
  have posts := State.postsAlike_post (t.handleAt i) .holdExpired (State.postsAlike_applyUpdate i u.value u.source u.stamp t)
  have applied := State.slotAt_applyUpdate i i u.value u.source u.stamp t
  rw [if_pos ⟨rfl, inTable⟩] at applied
  rw [State.slotAt_holdOver _ t inTable, ← posts.2.2.2 i, State.applyPending, applied]

theorem State.postsAlike_holdOver_update (i : Nat) (u : PendingUpdate) (t : State) :
    (t.holdOver i (some u)).postsAlike ((t.updateNotices i u.value).post (t.handleAt i) .holdExpired) :=
  State.postsAlike_trans (State.postsAlike_holdOver i (some u) t)
    (State.postsAlike_post _ _ (State.postsAlike_applyUpdate i u.value u.source u.stamp t))

/-- An expiry leaves what the publication of its record depends on. -/
theorem State.schedule_holdOver {i : Nat} (u : Option PendingUpdate) (t : State) (inTable : i < 512) :
    ((t.holdOver i u).slotAt i).kind = (t.slotAt i).kind ∧ ((t.holdOver i u).slotAt i).body.period = (t.slotAt i).body.period ∧
    ((t.holdOver i u).slotAt i).body.nextDue = (t.slotAt i).body.nextDue := by
  cases u with
  | none =>
    rw [State.slotAt_holdOver none t inTable]
    exact ⟨rfl, rfl, rfl⟩
  | some u =>
    rw [State.slotAt_holdOver_update u t inTable]
    exact ⟨rfl, rfl, rfl⟩

theorem State.schedule_agedInSweep {n : Tick} {i : Nat} {s : State} (inTable : i < 512) :
    ((s.agedInSweep n i).slotAt i).kind = (s.slotAt i).kind ∧ ((s.agedInSweep n i).slotAt i).body = (s.slotAt i).body ∧
    ((s.agedInSweep n i).slotAt i).integrity = (s.slotAt i).integrity := by
  obtain ⟨state, missed, slot⟩ := State.slotAt_agedInSweep (n := n) (s := s) inTable
  rw [slot]
  exact ⟨rfl, rfl, rfl⟩

/-- A slot without a hold entry: removing its entries changes nothing. -/
theorem State.holds_filter_of_holdOf {s : State} {i : Nat} (unheld : s.holdOf i = none) :
    (s.holds.filter fun e => e.slot != i) = s.holds := by
  unfold State.holdOf at unheld
  rw [List.find?_eq_none] at unheld
  rw [List.filter_eq_self]
  exact fun e listed => by simpa using unheld e listed

theorem Slot.evictable_of_held {x : Slot} (held : x.held = true) : x.evictable = false := by
  simp [Slot.evictable, held]

theorem Slot.evictable_of_exported {x : Slot} (exported : x.kind = some .exported) : x.evictable = false := by
  simp [Slot.evictable, exported]

theorem Slot.evictable_of_young {x : Slot} (young : x.state = .new ∨ x.state = .fresh) : x.evictable = false := by
  rcases young with state | state <;> simp [Slot.evictable, state]

/-- A record lost in a visit, part by part (R55). -/
theorem State.lostRecord_table (q : FaultSource) (i : Nat) (s : State) :
    { s.lostRecord q i with
      slots := s.slots, holds := s.holds, lines := s.lines, notices := s.notices, conditions := s.conditions, capture := s.capture } = s :=
  rfl

/-- A retirement with its notice, part by part (R17). -/
theorem State.retireWith_table (k : NoticeKind) (i : Nat) (s : State) (a : Vector Slot 512) (b : List HoldEntry) (c : Vector LineState 4)
    (d : List Notice) (e : Conditions) :
    { s.retireWith k i with slots := a, holds := b, lines := c, notices := d, conditions := e } =
      { s with slots := a, holds := b, lines := c, notices := d, conditions := e } := by
  apply State.ext <;> simp

/-- What a retirement with its notice leaves of its slot (R17). -/
theorem State.slotAt_retireWith_self (k : NoticeKind) {i : Nat} (s : State) (inTable : i < 512) :
    (s.retireWith k i).slotAt i = { (s.slotAt i).emptied with missed := ((s.post (s.handleAt i) k).slotAt i).missed } := by
  have posts := State.postsAlike_retireWith k i (s := s) ⟨rfl, rfl, rfl, fun _ => rfl⟩
  have retired := State.slotAt_retireWith k i i s
  rw [if_pos ⟨rfl, inTable⟩, posts.2.2.2 i] at retired
  exact retired

/-! ## A visit that expires a hold -/

section
variable {w : Sweep} {s : State} {e : HoldEntry}

/-- A clean record with a hold at its limit: aged, its hold over, and then published if it is due (R124, R125, R157). -/
theorem State.visitSlot_expires (clean : (s.slotAt w.pos).integrity = .clean) (occupied : (s.slotAt w.pos).state ≠ .empty)
    (sound : (s.slotAt w.pos).state ≠ .faulted) (kept : (s.slotAt w.pos).evictable = false) (listed : s.holdOf w.pos = some e)
    (expired : e.limit.toNat ≤ age e.start w.now) :
    s.visitSlot w.now w.pos = ((s.agedInSweep w.now w.pos).holdOver w.pos e.update).publishDue w.now w.pos := by
  rw [State.visitSlot_unevictable clean occupied sound kept,
    State.expireHold_over (by rw [State.holdOf_agedInSweep]; exact listed) expired]

/-- As `visitSlot_expires`, for a record that is not published. -/
theorem State.visitSlot_expires_unpublished (clean : (s.slotAt w.pos).integrity = .clean) (occupied : (s.slotAt w.pos).state ≠ .empty)
    (sound : (s.slotAt w.pos).state ≠ .faulted) (kept : (s.slotAt w.pos).evictable = false) (listed : s.holdOf w.pos = some e)
    (expired : e.limit.toNat ≤ age e.start w.now)
    (notDue : (s.slotAt w.pos).kind ≠ some .exported ∨ (s.slotAt w.pos).body.period = 0 ∨
      dueCome (s.slotAt w.pos).body.nextDue w.now = false) :
    s.visitSlot w.now w.pos = (s.agedInSweep w.now w.pos).holdOver w.pos e.update := by
  have inTable := State.lt_of_occupied occupied
  obtain ⟨kind, period, nextDue⟩ := State.schedule_holdOver e.update (s.agedInSweep w.now w.pos) inTable
  obtain ⟨agedKind, body, -⟩ := State.schedule_agedInSweep (n := w.now) (s := s) inTable
  rw [State.visitSlot_expires clean occupied sound kept listed expired, State.publishDue_notDue]
  rw [kind, period, nextDue, agedKind, body]
  exact notDue

end

/-- The statement's frame of an expiry: a visit that ages and ends a hold leaves all but four parts of the state. -/
theorem State.holdOver_aged_frame (w : Sweep) (u : Option PendingUpdate) (s : State) :
    { State.sweptPast w ((s.agedInSweep w.now w.pos).holdOver w.pos u) with
      slots := s.slots, holds := s.holds, notices := s.notices, conditions := s.conditions } = s.sweptPast w := by
  rw [State.sweptPast_records, State.holdOver_rest]
  exact congrArg (State.sweptPast w)
    (congrArg (fun t : State => ({ t with holds := s.holds } : State))
      (State.agedInSweep_rest w.now w.pos s s.slots s.notices s.conditions))

/-- As `holdOver_aged_frame`, where the record is then published. -/
theorem State.holdOver_published_frame {w : Sweep} {u : Option PendingUpdate} {s : State}
    (exported : (((s.agedInSweep w.now w.pos).holdOver w.pos u).slotAt w.pos).kind = some .exported)
    (periodic : (((s.agedInSweep w.now w.pos).holdOver w.pos u).slotAt w.pos).body.period ≠ 0)
    (due : dueCome (((s.agedInSweep w.now w.pos).holdOver w.pos u).slotAt w.pos).body.nextDue w.now = true) :
    { State.sweptPast w (((s.agedInSweep w.now w.pos).holdOver w.pos u).publishDue w.now w.pos) with
      slots := s.slots, holds := s.holds, notices := s.notices, conditions := s.conditions, lines := s.lines } = s.sweptPast w := by
  have published := congrArg (fun t : State => ({ t with
    slots := s.slots, holds := s.holds, lines := s.lines, notices := s.notices, conditions := s.conditions } : State))
    (State.publishDue_rest exported periodic due)
  have expired := congrArg (fun t : State => ({ t with lines := s.lines } : State))
    (State.holdOver_rest w.pos u (s.agedInSweep w.now w.pos) s.slots s.holds s.notices s.conditions)
  have aged := congrArg (fun t : State => ({ t with holds := s.holds, lines := s.lines } : State))
    (State.agedInSweep_rest w.now w.pos s s.slots s.notices s.conditions)
  exact (State.sweptPast_table w _ _ _ _ _ _).trans (congrArg (State.sweptPast w) ((published.trans expired).trans aged))

/-- Settles O44: one lemma gives the visit; each kind of record is then its branch of the work on the slot. -/
theorem sweepVisitsJudgeTheirSlot : Obligations.SweepVisitsJudgeTheirSlot := by
  unfold Obligations.SweepVisitsJudgeTheirSlot
  intro w s released sweeping granted
  have run := exec_sweepVisit released sweeping granted
  refine ⟨fun passed => ?passed, fun sound single => ?corrected, fun isEmpty double => ?repaired, fun occupied sound double => ?lost,
    fun clean young unheld imported => ?ages, fun clean stale unheld imported => ?stale,
    fun e clean occupied sound notDue held listed => ?held, fun clean occupied sound exported young => ?exported,
    fun e clean occupied sound exported listed noUpdate expired periodic due => ?both⟩
  case passed =>
    have visit : s.visitSlot w.now w.pos = s := by
      rcases passed with faulted | ⟨isEmpty, clean⟩
      · exact State.visitSlot_faulted faulted
      · exact State.visitSlot_passes clean (.inl isEmpty)
    rw [run, visit]
    unfold State.sweptPast
    refine ⟨fun within => ?_, fun last idle => ?_, fun last owed => ?_⟩
    · rw [if_pos within]
    · rw [if_neg (by omega), idle]
      rfl
    · rw [if_neg (by omega), if_pos (by exact owed)]
  case corrected =>
    rw [run, State.visitSlot_corrected sound single]
    exact (exec_sweepVisit (s := s.corrected .sweep w.pos) released sweeping granted).symm
  case repaired => rw [run, State.visitSlot_repairs isEmpty double]
  case lost =>
    have inTable := State.lt_of_occupied occupied
    rw [State.visitSlot_lost occupied sound double] at run
    refine ⟨_, run, (State.sweptPast_rest w _ _ _ _ _ _ _).trans (congrArg (State.sweptPast w) (State.lostRecord_table .sweep w.pos s)),
      ?_, fun j other => ?_, State.holds_sweptPast w _, fun l => ?_, State.notices_sweptPast w _, State.conditions_sweptPast w _,
      State.capture_sweptPast w _⟩
    · rw [State.slotAt_sweptPast, State.slotAt_lostRecord _ inTable]
    · rw [State.slotAt_sweptPast, State.slotAt_lostRecord_ne _ other]
    · rw [State.line_sweptPast, State.line_lostRecord]
  case ages =>
    have occupied : (s.slotAt w.pos).state ≠ .empty := by rcases young with state | state <;> simp [state]
    have sound : (s.slotAt w.pos).state ≠ .faulted := by rcases young with state | state <;> simp [state]
    have inTable := State.lt_of_occupied occupied
    obtain ⟨kind, -, -⟩ := State.schedule_agedInSweep (n := w.now) (s := s) inTable
    have visit : s.visitSlot w.now w.pos = s.agedInSweep w.now w.pos := by
      rw [State.visitSlot_unexpired clean occupied sound (Slot.evictable_of_young young) (by simp [unheld]),
        State.publishDue_notDue (.inl (by rw [kind]; exact imported))]
    rw [run, visit]
    refine ⟨fun stays => ?_, fun limited old => ?_⟩
    · rw [State.agedInSweep_leaves (.inr stays)]
    · rw [State.agedInSweep, if_pos ⟨young, limited, old⟩]
  case stale =>
    refine ⟨fun learned free set old => ?evicted, fun stays => ?stays⟩
    case stays => rw [run, State.visitSlot_staleStays clean stale unheld imported stays]
    case evicted =>
      have inTable : w.pos < 512 := State.lt_of_occupied (by rw [stale]; decide)
      obtain ⟨notices, conditions, -, -⟩ := State.postsAlike_retireWith (.evicted .age) w.pos (s := s) ⟨rfl, rfl, rfl, fun _ => rfl⟩
      rw [State.visitSlot_evicts clean stale unheld learned free set old] at run
      refine ⟨_, run, (State.sweptPast_table w _ _ _ _ _ _).trans (congrArg (State.sweptPast w) (State.retireWith_table _ _ s _ _ _ _ _)),
        ?_, fun j other => ?_, ?_, fun l => ?_, (State.notices_sweptPast w _).trans notices, (State.conditions_sweptPast w _).trans conditions⟩
      · rw [State.slotAt_sweptPast, State.slotAt_retireWith_self _ s inTable]
        rfl
      · rw [State.slotAt_sweptPast, State.slotAt_retireWith_ne _ s other]
      · rw [State.holds_sweptPast, State.retireWith, State.post_holds]
        exact State.holds_filter_of_holdOf unheld
      · rw [State.line_sweptPast, State.line_retireWith]
  case held =>
    have inTable := State.lt_of_occupied occupied
    obtain ⟨kind, body, -⟩ := State.schedule_agedInSweep (n := w.now) (s := s) inTable
    have kept := Slot.evictable_of_held held
    refine ⟨fun young => ?young, fun expired => ?expired⟩
    case young =>
      rw [run, State.visitSlot_unexpired clean occupied sound kept (fun x same => by rw [listed] at same; cases same; exact young),
        State.publishDue_notDue (by rw [kind, body]; exact notDue)]
    case expired =>
      have handle := State.handleAt_agedInSweep (n := w.now) (s := s) inTable
      rw [State.visitSlot_expires_unpublished clean occupied sound kept listed expired notDue] at run
      refine ⟨_, run, State.holdOver_aged_frame w e.update s, ?_, fun j other => ?_, fun noUpdate => ?_, fun u update => ?_⟩
      · rw [State.holds_sweptPast, State.holds_holdOver, (s.agedInSweep_keeps w.now w.pos).1]
      · rw [State.slotAt_sweptPast, State.slotAt_holdOver_ne _ _ other, State.slotAt_agedInSweep_ne other]
      · have posts := State.postsAlike_holdOver w.pos none (s.agedInSweep w.now w.pos)
        rw [noUpdate, State.slotAt_sweptPast, State.notices_sweptPast, State.conditions_sweptPast, State.slotAt_holdOver none _ inTable,
          posts.1, posts.2.1, handle]
        exact ⟨rfl, rfl, rfl⟩
      · have posts := State.postsAlike_holdOver_update w.pos u (s.agedInSweep w.now w.pos)
        obtain ⟨state, missed, slot⟩ := State.slotAt_agedInSweep (n := w.now) (s := s) inTable
        rw [update, State.slotAt_sweptPast, State.notices_sweptPast, State.conditions_sweptPast, State.slotAt_holdOver_update u _ inTable,
          posts.1, posts.2.1, handle, slot, Slot.updated, ← clean]
        exact ⟨rfl, rfl, rfl⟩
  case exported =>
    have inTable := State.lt_of_occupied occupied
    obtain ⟨kind, body, integrity⟩ := State.schedule_agedInSweep (n := w.now) (s := s) inTable
    rw [State.visitSlot_unexpired clean occupied sound (Slot.evictable_of_exported exported) young] at run
    refine ⟨fun notDue => ?notDue, fun periodic due => ?due⟩
    case notDue => rw [run, State.publishDue_notDue (by rw [kind, body]; exact .inr notDue)]
    case due =>
      have agedExported := kind.trans exported
      rw [← body] at periodic due
      obtain ⟨-, lines, mode, -, -⟩ := s.agedInSweep_keeps w.now w.pos
      refine ⟨_, run, ?_, fun l => ?_⟩
      · rw [State.sweptPast_lines, ← lines, State.publishDue_rest agedExported periodic due, State.modifySlot,
          Slot.scheduled_of_clean (integrity.trans clean), body]
        rfl
      · rw [State.line_sweptPast, State.line_publishDue agedExported periodic due, mode, State.line_agedInSweep,
          State.publishedOn_congr (State.line_agedInSweep _ _ s l) (State.handleAt_agedInSweep inTable) rfl rfl]
  case both =>
    have inTable := State.lt_of_occupied occupied
    obtain ⟨agedKind, body, integrity⟩ := State.schedule_agedInSweep (n := w.now) (s := s) inTable
    obtain ⟨kind, period, nextDue⟩ := State.schedule_holdOver none (s.agedInSweep w.now w.pos) inTable
    have handle := State.handleAt_agedInSweep (n := w.now) (s := s) inTable
    rw [State.visitSlot_expires clean occupied sound (Slot.evictable_of_exported exported) listed expired, noUpdate] at run
    have overExported := (kind.trans agedKind).trans exported
    rw [← body, ← period] at periodic
    rw [← body, ← nextDue] at due
    obtain ⟨slots, holds, notices, conditions⟩ := State.publishDue_keeps overExported periodic due
    obtain ⟨agedHolds, -, agedMode, -, -⟩ := s.agedInSweep_keeps w.now w.pos
    obtain ⟨postedNotices, postedConditions, -, -⟩ := State.postsAlike_holdOver w.pos none (s.agedInSweep w.now w.pos)
    have slot := State.slotAt_holdOver none (s.agedInSweep w.now w.pos) inTable
    rw [handle] at slot postedNotices postedConditions
    have overClean : (((s.agedInSweep w.now w.pos).holdOver w.pos none).slotAt w.pos).integrity = .clean := by
      rw [slot]
      exact integrity.trans clean
    refine ⟨_, run, State.holdOver_published_frame overExported periodic due, ?_, fun j other => ?_, ?_, ?_, ?_, fun l => ?_⟩
    · rw [State.holds_sweptPast, holds, State.holds_holdOver, agedHolds]
    · rw [State.slotAt_sweptPast, slots, State.slotAt_modifySlot_ne _ _ other, State.slotAt_holdOver_ne _ _ other,
        State.slotAt_agedInSweep_ne other]
    · rw [State.slotAt_sweptPast, slots, State.slotAt_modifySlot_self _ _ inTable, Slot.scheduled_of_clean overClean, slot, ← body]
      rfl
    · rw [State.notices_sweptPast, notices, postedNotices]
      rfl
    · rw [State.conditions_sweptPast, conditions, postedConditions]
      rfl
    · have sameHandle : ((s.agedInSweep w.now w.pos).holdOver w.pos none).handleAt w.pos = s.handleAt w.pos := by
        rw [State.handleAt, slot]
        exact handle
      rw [State.line_sweptPast, State.line_publishDue overExported periodic due, State.mode_holdOver, agedMode, State.line_holdOver,
        State.line_agedInSweep, State.publishedOn_congr ((State.line_holdOver _ _ _ l).trans (State.line_agedInSweep _ _ s l)) sameHandle
          (y := (s.agedInSweep w.now w.pos).slotAt w.pos) (by rw [slot]; rfl) (by rw [slot]; rfl)]

end Sys2Proof.Machine
end

section
/-! PROOFS. The take of a frame, its class and its key, and what UPDATE, QUERY and WITHDRAW make of the record they find. -/

namespace Sys2Proof.Machine

/-! ## Taken frames -/

/-- A granted frame operation is its operation on the state after the take. -/
theorem exec_frame {c : Instr} {kind : FrameKind} {op : LineId → RxFrame → State → State} {l : LineId} {f : RxFrame} {rest : List RxFrame}
    {s : State} (event : ∀ t, exec c t = whilePowered (State.frameOperation kind op l) t) (released : s.resetHeld = false)
    (queue : (s.line l).rxQueue = f :: rest) (ofKind : f.kind = kind) (granted : s.grantNext = some (.line l))
    (noRestart : (s.line l).restartRequest = false) : exec c s = .next (op l f (s.takeFrame l rest)) := by
  rw [event, whilePowered_released _ released, State.frameOperation_granted queue granted noRestart ofKind]

theorem exec_update (l : LineId) (s : State) :
    exec (.update l) s = whilePowered (State.frameOperation .update State.opUpdate l) s := rfl

theorem exec_query (l : LineId) (s : State) : exec (.query l) s = whilePowered (State.frameOperation .query State.opQuery l) s := rfl

theorem exec_withdraw (l : LineId) (s : State) :
    exec (.withdraw l) s = whilePowered (State.frameOperation .withdraw State.opWithdraw l) s := rfl

/-- The line after a take, written out: the queue's rest, the flow control's reaction, and FRAMES_TAKEN. -/
def State.takenLine (l : LineId) (rest : List RxFrame) (s : State) : LineState :=
  { s.lineTaken l rest with counters := { (s.line l).counters with framesTaken := sat16 (s.line l).counters.framesTaken } }

theorem State.lineTaken_eq (l : LineId) (rest : List RxFrame) (s : State) :
    s.lineTaken l rest = { s.line l with rxQueue := rest, control := (s.lineTaken l rest).control } :=
  LineState.flowOnFall_eq s.flowActs { s.line l with rxQueue := rest }

/-- A discarded frame: a take that is counted UNCLASSED (R29). -/
theorem State.takeFrame_unclassed (s : State) (l : LineId) (rest : List RxFrame) :
    (s.takeFrame l rest).count l .unclassed = { s.withLine l { s.lineTaken l rest with
      counters := { (s.line l).counters with
        framesTaken := sat16 (s.line l).counters.framesTaken, unclassed := sat16 (s.line l).counters.unclassed } } with
      arb := (s.grantLine l).arb } := by
  unfold State.count
  rw [State.takeFrame_modifyLine]
  rfl

/-! ## Classes and keys -/

/-- Two words agree under a mask when they agree at every bit of it. -/
theorem masked_eq_iff {x y m : Ident} : x &&& m = y &&& m ↔ ∀ k, m.getLsbD k = true → x.getLsbD k = y.getLsbD k := by
  refine ⟨fun same k bit => ?_, fun bits => ?_⟩
  · have := congrArg (BitVec.getLsbD · k) same
    simpa [bit] using this
  · refine BitVec.eq_of_getLsbD_eq fun k _ => ?_
    rw [BitVec.getLsbD_and, BitVec.getLsbD_and]
    cases bit : m.getLsbD k with
    | false => simp
    | true => rw [bits k bit]

/-- A class matches a frame: enabled, the line in its set, the identifiers equal under its mask (R27, R28). -/
theorem AccClass.fits_iff {masks : Vector Ident 4} {l : LineId} {ident : Ident} {c : AccClass} : c.fits masks l ident = true ↔
    c.enabled = true ∧ c.lines.getLsbD l.val = true ∧
      ∀ k, (masks.get c.mask).getLsbD k = true → ident.getLsbD k = c.compare.getLsbD k := by
  rw [AccClass.fits, Bool.and_eq_true, Bool.and_eq_true, beq_iff_eq, masked_eq_iff, and_assoc, lineIn]

/-- A search of all numbers of a `Fin` type ends at the first that passes. -/
theorem find_finRange_iff {n : Nat} {p : Fin n → Bool} {i : Fin n} :
    (List.finRange n).find? p = some i ↔ p i = true ∧ ∀ j < i, ¬p j = true := by
  rw [List.find?_eq_some_iff_getElem]
  refine and_congr_right fun _ => ⟨fun ⟨k, inRange, found, before⟩ j less => ?_, fun before => ?_⟩
  · have place : i.val = k := by rw [← found]; simp
    have := before j.val (by rw [← place]; exact less)
    simpa using this
  · refine ⟨i.val, by simp, by simp, fun j less => ?_⟩
    have := before ⟨j, less.trans i.isLt⟩ less
    simpa using this

/-- The class of a frame is the first that matches it (R28). -/
theorem ClassSet.classify_iff {set : ClassSet} {l : LineId} {ident : Ident} {n : Fin 16} : set.classify l ident = some n ↔
    (set.classes.get n).fits set.masks l ident = true ∧ ∀ m < n, ¬(set.classes.get m).fits set.masks l ident = true :=
  find_finRange_iff

/-- The bits of a selector value: the first bits of the payload, from the most significant bit of byte 0 (R30). -/
theorem selectorValue_bit {len : Nat} (payload : List Byte) (short : len ≤ 16) (k : Nat) :
    (selectorValue len payload).getLsbD k =
      (decide (k < len) && (payload.getD ((len - 1 - k) / 8) 0).getLsbD (7 - (len - 1 - k) % 8)) := by
  unfold selectorValue
  rw [BitVec.getLsbD_ushiftRight, BitVec.getLsbD_append]
  by_cases inside : k < len
  · by_cases first : len - 1 - k < 8
    · have byte : (len - 1 - k) / 8 = 0 := by omega
      have bit : 16 - len + k - 8 = 7 - (len - 1 - k) % 8 := by omega
      rw [if_neg (by omega), byte, bit, decide_eq_true inside, Bool.true_and]
    · have byte : (len - 1 - k) / 8 = 1 := by omega
      have bit : 16 - len + k = 7 - (len - 1 - k) % 8 := by omega
      rw [if_pos (by omega), byte, bit, decide_eq_true inside, Bool.true_and]
  · rw [if_neg (by omega), decide_eq_false inside, Bool.false_and]
    exact BitVec.getLsbD_of_ge _ _ (by omega)

/-- Settles O45: the discard by the kind of the frame, then the class, the key, and the flow control's reaction to a take. -/
theorem unclassedFramesAreDiscarded : Obligations.UnclassedFramesAreDiscarded := by
  unfold Obligations.UnclassedFramesAreDiscarded
  intro l f rest s released queue granted noRestart
  refine ⟨fun noClass c ofKind => ?discarded, fun n => ?class_, fun n => ⟨rfl, rfl, rfl, fun k => ?key⟩, fun acts => ?acts, fun still => ?still⟩
  case discarded =>
    have noClass' : ∀ n, (s.takeFrame l rest).active.classify l f.ident = some n →
        ((s.takeFrame l rest).active.classes.get n).disposition = .drop := noClass
    rw [← State.takeFrame_unclassed]
    rcases ofKind with ⟨kind, rfl⟩ | ⟨kind, rfl⟩ | ⟨kind, rfl⟩
    · rw [exec_frame (exec_update l) released queue kind granted noRestart, State.opUpdate, State.classified_drop noClass']
    · rw [exec_frame (exec_query l) released queue kind granted noRestart, State.opQuery, State.classified_drop noClass']
    · rw [exec_frame (exec_withdraw l) released queue kind granted noRestart, State.opWithdraw, State.classified_drop noClass']
  case class_ =>
    rw [ClassSet.classify_iff]
    simp only [AccClass.fits_iff]
  case key => exact selectorValue_bit f.payload (by have := (s.active.classes.get n).selLen.isLt; omega) k
  case acts =>
    obtain ⟨run, settled, flow, low, told⟩ := acts
    exact LineState.flowOnFall_acts ⟨State.flowActs_iff.2 ⟨run, settled⟩, flow, low, told⟩
  case still =>
    refine LineState.flowOnFall_leaves fun ⟨acts, flow, low, told⟩ => still ?_
    obtain ⟨run, settled⟩ := State.flowActs_iff.1 acts
    exact ⟨run, settled, flow, low, told⟩

end Sys2Proof.Machine
end

section
/-! PROOFS. What UPDATE, QUERY and WITHDRAW make of the record they find. -/

namespace Sys2Proof.Machine

/-! ## What a take leaves alone -/

theorem State.postsAlike_takeFrame (s : State) (l : LineId) (rest : List RxFrame) : (s.takeFrame l rest).postsAlike s :=
  ⟨rfl, rfl, rfl, fun _ => rfl⟩

theorem State.line_takeFrame_self (s : State) (l : LineId) (rest : List RxFrame) : (s.takeFrame l rest).line l = s.takenLine l rest :=
  State.line_takeFrame s l rest

/-- What a take leaves of its own line (R45, R70). -/
theorem State.takenLine_keeps (l : LineId) (rest : List RxFrame) (s : State) :
    (s.takenLine l rest).rxQueue = rest ∧ (s.takenLine l rest).data = (s.line l).data ∧ (s.takenLine l rest).rx = (s.line l).rx ∧
    (s.takenLine l rest).flight = (s.line l).flight ∧ (s.takenLine l rest).settings = (s.line l).settings ∧
    (s.takenLine l rest).counters = { (s.line l).counters with framesTaken := sat16 (s.line l).counters.framesTaken } := by
  rw [State.takenLine, State.lineTaken_eq]
  exact ⟨rfl, rfl, rfl, rfl, rfl, rfl⟩

/-- A record that a lookup finds is a record of the table that is not EMPTY. -/
theorem State.occupied_of_lookup {s : State} {k : Key} {i : Nat} (found : s.lookup k = some i) :
    i < 512 ∧ (s.slotAt i).state ≠ .empty := by
  obtain ⟨inTable, keyed⟩ := State.lookup_some found
  refine ⟨inTable, fun isEmpty => ?_⟩
  simp [Slot.matchesKey, Slot.visible, isEmpty] at keyed

/-! ## UPDATE -/

theorem State.opUpdate_short {s : State} {l : LineId} {f : RxFrame} {n : Fin 16} (cls : s.active.classify l f.ident = some n)
    (keep : (s.active.classes.get n).disposition ≠ .drop) (short : 8 * f.payload.length < (s.active.classes.get n).selLen.val) :
    s.opUpdate l f = s.count l .refused := State.classified_short cls keep short

theorem State.opUpdate_unknown {s : State} {l : LineId} {f : RxFrame} {n : Fin 16} (cls : s.active.classify l f.ident = some n)
    (keep : (s.active.classes.get n).disposition ≠ .drop) (covered : (s.active.classes.get n).selLen.val ≤ 8 * f.payload.length)
    (unknown : s.lookup (frameKey l f (s.active.classes.get n)) = none) :
    s.opUpdate l f = s.updateUnknown l f n (frameKey l f (s.active.classes.get n)) := by
  rw [State.opUpdate, State.classified_run cls keep covered, unknown]

theorem State.opUpdate_found {s : State} {l : LineId} {f : RxFrame} {n : Fin 16} {i : Nat} (cls : s.active.classify l f.ident = some n)
    (keep : (s.active.classes.get n).disposition ≠ .drop) (covered : (s.active.classes.get n).selLen.val ≤ 8 * f.payload.length)
    (found : s.lookup (frameKey l f (s.active.classes.get n)) = some i) : s.opUpdate l f = s.updateFound l f i := by
  rw [State.opUpdate, State.classified_run cls keep covered, found]

theorem State.updateFound_exported {s : State} {l : LineId} {i : Nat} (f : RxFrame) (exported : (s.slotAt i).kind = some .exported) :
    s.updateFound l f i = s.count l .refused := if_pos exported

/-- An UPDATE that finds a clean record goes by its owner and its held mark (R92, R93, R94). -/
theorem State.updateFound_clean {s : State} {l : LineId} {i : Nat} (f : RxFrame) (imported : (s.slotAt i).kind ≠ some .exported)
    (clean : (s.slotAt i).integrity = .clean) : s.updateFound l f i =
      if ownerBars (s.slotAt i).body.owner f.source then s.count l .refused
      else if (s.slotAt i).held then s.keepPending i { value := f.payload, source := f.source, stamp := s.tick }
      else s.applyUpdate i f.payload f.source s.tick := by
  unfold State.updateFound
  rw [if_neg imported, State.checkBody_clean _ clean, State.bodyLost_clean clean]
  rfl

theorem ownerBars_allowed {owner : Option Byte} {source : Byte} (allowed : owner = none ∨ owner = some source) :
    ownerBars owner source = false := by
  rcases allowed with rfl | rfl <;> simp [ownerBars]

/-- An applied update writes the slots, the notices and the conditions alone. -/
theorem State.applyUpdate_rest (i : Nat) (v : List Byte) (n : Byte) (m : Tick) (s : State) (a : Vector Slot 512) (b : List HoldEntry)
    (d : List Notice) (e : Conditions) : { s.applyUpdate i v n m with slots := a, holds := b, notices := d, conditions := e } =
      { s with slots := a, holds := b, notices := d, conditions := e } := by
  apply State.ext <;> simp

/-- What an UPDATE does to the record it finds: the parts of the state that it may write (R93, R94). -/
theorem State.updateFound_allowed {u : State} {l : LineId} {f : RxFrame} {i : Nat} (inTable : i < 512)
    (imported : (u.slotAt i).kind ≠ some .exported) (clean : (u.slotAt i).integrity = .clean)
    (allowed : (u.slotAt i).body.owner = none ∨ (u.slotAt i).body.owner = some f.source) :
    { u.updateFound l f i with slots := u.slots, holds := u.holds, notices := u.notices, conditions := u.conditions } = u ∧
    (∀ j, j ≠ i → (u.updateFound l f i).slotAt j = u.slotAt j) ∧
    ((u.slotAt i).held = false → (u.updateFound l f i).holds = u.holds ∧
      (u.updateFound l f i).slotAt i = { u.slotAt i with
        state := .fresh, missed := ((u.updateNotices i f.payload).slotAt i).missed,
        body := { (u.slotAt i).body with
          value := some f.payload, stamp := u.tick, source := .node f.source, count := sat8 (u.slotAt i).body.count } } ∧
      (u.updateFound l f i).notices = (u.updateNotices i f.payload).notices ∧
      (u.updateFound l f i).conditions = (u.updateNotices i f.payload).conditions) ∧
    ((u.slotAt i).held = true → u.updateFound l f i = u.keepPending i { value := f.payload, source := f.source, stamp := u.tick }) := by
  rw [State.updateFound_clean f imported clean, ownerBars_allowed allowed, if_neg (by decide)]
  cases held : (u.slotAt i).held with
  | true => exact ⟨rfl, fun _ _ => rfl, (by intro free; cases free), fun _ => rfl⟩
  | false =>
    rw [if_neg (by decide)]
    obtain ⟨notices, conditions, -, missed⟩ := State.postsAlike_applyUpdate i f.payload f.source u.tick u
    refine ⟨State.applyUpdate_rest _ _ _ _ u _ _ _ _, fun j other => State.slotAt_applyUpdate_ne _ _ _ u other,
      fun _ => ⟨by simp, ?_, notices, conditions⟩, fun held => by cases held⟩
    rw [State.slotAt_applyUpdate, if_pos ⟨rfl, inTable⟩, missed i, Slot.updated, ← clean]

/-- Settles O46: by the payload's length, the lookup, and the record it finds. -/
theorem updatesAreAppliedOrKept : Obligations.UpdatesAreAppliedOrKept := by
  unfold Obligations.UpdatesAreAppliedOrKept
  intro l f rest n s released queue kind granted noRestart cls keep
  have run := exec_frame (exec_update l) released queue kind granted noRestart
  refine ⟨fun short => ?_, fun covered => ⟨fun unknown bind => ?_, fun i found => ?_⟩⟩
  · rw [run, State.opUpdate_short (s := s.takeFrame l rest) cls keep short, State.takeFrame_frameRefused]
  · rw [run, State.opUpdate_unknown (s := s.takeFrame l rest) cls keep covered unknown, State.updateUnknown,
      if_neg (by rw [show (s.takeFrame l rest).active = s.active from rfl, bind]; decide), State.takeFrame_frameRefused]
  · rw [State.opUpdate_found (s := s.takeFrame l rest) cls keep covered found] at run
    obtain ⟨inTable, occupied⟩ := State.occupied_of_lookup found
    refine ⟨fun exported => ?exported, fun owner imported clean owned foreign => ?foreign, fun imported clean allowed => ?allowed,
      fun imported single => ?single, fun imported double => ?double⟩
    case exported => rw [run, State.updateFound_exported (s := s.takeFrame l rest) f exported, State.takeFrame_frameRefused]
    case foreign =>
      have bars : ownerBars ((s.takeFrame l rest).slotAt i).body.owner f.source = true := by
        rw [show (s.takeFrame l rest).slotAt i = s.slotAt i from rfl, owned]
        simpa [ownerBars] using foreign
      rw [run, State.updateFound_clean (s := s.takeFrame l rest) f imported clean, if_pos bars, State.takeFrame_frameRefused]
    case allowed =>
      obtain ⟨frame, others, free, held⟩ := State.updateFound_allowed (u := s.takeFrame l rest) (l := l) inTable imported clean allowed
      have lines : ∀ k, (State.updateFound l f i (s.takeFrame l rest)).line k = (s.takeFrame l rest).line k := fun k =>
        (congrArg (fun t : State => t.line k) frame :)
      obtain ⟨rxQueue, data, rx, flight, -, counters⟩ := State.takenLine_keeps l rest s
      obtain ⟨notices, conditions, -, missed⟩ :=
        State.postsAlike_updateNotices i f.payload (State.postsAlike_takeFrame s l rest) rfl
      have line := (lines l).trans (State.line_takeFrame_self s l rest)
      refine ⟨_, run, (congrArg State.arb frame :), ?_, ?_, ?_, ?_, ?_, fun k other => ?_, others, (congrArg State.slot frame :),
        (congrArg State.capture frame :), frame.trans (State.takeFrame_eq s l rest), fun isFree => ?_, fun isHeld => ?_⟩
      · rw [line, rxQueue]
      · rw [line, data]
      · rw [line, rx]
      · rw [line, flight]
      · rw [line, counters]
      · rw [lines k, State.line_takeFrame_ne s rest other]
      · obtain ⟨holds, slot, freeNotices, freeConditions⟩ := free isFree
        rw [missed i] at slot
        exact ⟨holds, slot, freeNotices.trans notices, freeConditions.trans conditions⟩
      · rw [held isHeld]
        exact ⟨rfl, rfl, rfl, rfl⟩
    case single =>
      have again := exec_frame (exec_update l) (s := s.corrected (.line l) i) released queue kind granted noRestart
      have found' : (s.corrected (.line l) i).lookup (frameKey l f (s.active.classes.get n)) = some i := by
        rw [State.lookup_corrected, found]
      rw [State.opUpdate_found (s := (s.corrected (.line l) i).takeFrame l rest) cls keep covered found',
        ← State.takeFrame_corrected, ← State.updateFound_corrected (s := s.takeFrame l rest) f inTable single imported] at again
      rw [run, again]
    case double =>
      rw [run, State.updateFound_lost (s := s.takeFrame l rest) f inTable occupied double imported, State.takeFrame_lost]

/-! ## QUERY -/

theorem State.opQuery_unknown {s : State} {l : LineId} {f : RxFrame} {n : Fin 16} (cls : s.active.classify l f.ident = some n)
    (keep : (s.active.classes.get n).disposition ≠ .drop) (covered : (s.active.classes.get n).selLen.val ≤ 8 * f.payload.length)
    (unknown : s.lookup (frameKey l f (s.active.classes.get n)) = none) : s.opQuery l f = s.count l .unanswered := by
  rw [State.opQuery, State.classified_run cls keep covered, unknown]

theorem State.opQuery_found {s : State} {l : LineId} {f : RxFrame} {n : Fin 16} {i : Nat} (cls : s.active.classify l f.ident = some n)
    (keep : (s.active.classes.get n).disposition ≠ .drop) (covered : (s.active.classes.get n).selLen.val ≤ 8 * f.payload.length)
    (found : s.lookup (frameKey l f (s.active.classes.get n)) = some i) : s.opQuery l f = s.queryFound l f i := by
  rw [State.opQuery, State.classified_run cls keep covered, found]

/-- A QUERY that finds a clean record goes by the mode (R97, R98). -/
theorem State.queryFound_clean {s : State} {l : LineId} {i : Nat} (f : RxFrame) (clean : (s.slotAt i).integrity = .clean) :
    s.queryFound l f i =
      if s.mode = .listen then s
      else if s.flowActs then
        s.modifyLine l (·.offerReply ((s.slotAt i).state != .fresh) f.ident ((s.slotAt i).body.value.getD []))
      else s.count l .unanswered := by
  unfold State.queryFound
  rw [State.checkBody_clean _ clean, State.bodyLost_clean clean]
  rfl

/-- A frame that is counted UNANSWERED after its take (R98). -/
theorem State.takeFrame_unanswered (s : State) (l : LineId) (rest : List RxFrame) :
    (s.takeFrame l rest).count l .unanswered = { s.withLine l { s.lineTaken l rest with
      counters := { (s.line l).counters with
        framesTaken := sat16 (s.line l).counters.framesTaken, unanswered := sat16 (s.line l).counters.unanswered } } with
      arb := (s.grantLine l).arb } := by
  unfold State.count
  rw [State.takeFrame_modifyLine]
  rfl

/-- Settles O47: by the payload's length, the lookup, the mode and the room in the data part. -/
theorem queriesAreAnswered : Obligations.QueriesAreAnswered := by
  unfold Obligations.QueriesAreAnswered
  intro l f rest n s released queue kind granted noRestart cls keep
  have run := exec_frame (exec_query l) released queue kind granted noRestart
  refine ⟨fun short => ?_, fun covered unknown => ?_, fun i covered found => ?_⟩
  · rw [run, State.opQuery, State.classified_short (s := s.takeFrame l rest) cls keep short, State.takeFrame_frameRefused]
  · rw [run, State.opQuery_unknown (s := s.takeFrame l rest) cls keep covered unknown, State.takeFrame_unanswered]
  · rw [State.opQuery_found (s := s.takeFrame l rest) cls keep covered found] at run
    obtain ⟨inTable, occupied⟩ := State.occupied_of_lookup found
    obtain ⟨-, data, -, -, settings, -⟩ := State.takenLine_keeps l rest s
    have inRun : s.mode = .run → ¬(s.takeFrame l rest).mode = .listen := fun mode => by
      rw [show (s.takeFrame l rest).mode = s.mode from rfl, mode]
      decide
    refine ⟨fun clean mode settled room => ?replies, fun clean mode silent => ?silent, fun clean mode => ?listens,
      fun single => ?single, fun double => ?double⟩
    case replies =>
      have acts : (s.takeFrame l rest).flowActs = true := State.flowActs_iff.2 ⟨mode, settled⟩
      have room' : (s.takenLine l rest).data.length < 8 := by rw [data]; exact room
      have offers : (s.takenLine l rest).offerReply ((s.slotAt i).state != .fresh) f.ident ((s.slotAt i).body.value.getD []) =
          { s.takenLine l rest with data := (s.line l).data ++ [{
            item := .reply ((s.slotAt i).state != .fresh) f.ident, priority := (s.line l).settings.replyPriority,
            snapshot := (s.slotAt i).body.value.getD [] }] } := by
        rw [LineState.offerReply, if_pos room', ← data, ← settings]
      rw [run, State.queryFound_clean (s := s.takeFrame l rest) f clean, if_neg (inRun mode), if_pos acts, State.takeFrame_modifyLine]
      exact congrArg (fun x => Host.Outcome.next ({ s.withLine l x with arb := (s.grantLine l).arb } : State)) offers
    case silent =>
      rw [run, State.queryFound_clean (s := s.takeFrame l rest) f clean, if_neg (inRun mode), ← State.takeFrame_unanswered]
      by_cases settled : s.transition = none
      · have acts : (s.takeFrame l rest).flowActs = true := State.flowActs_iff.2 ⟨mode, settled⟩
        have full : ¬((s.takeFrame l rest).line l).data.length < 8 := by
          rw [State.line_takeFrame_self, data]
          rcases silent with moving | full
          · exact absurd settled moving
          · omega
        rw [if_pos acts, State.count, State.modifyLine, LineState.offerReply, if_neg full]
        rfl
      · have still : ¬(s.takeFrame l rest).flowActs = true := fun acts => settled (State.flowActs_iff.1 acts).2
        rw [if_neg still]
    case listens =>
      rw [run, State.queryFound_clean (s := s.takeFrame l rest) f clean, if_pos (by exact mode), State.takeFrame_eq]
    case single =>
      have again := exec_frame (exec_query l) (s := s.corrected (.line l) i) released queue kind granted noRestart
      have found' : (s.corrected (.line l) i).lookup (frameKey l f (s.active.classes.get n)) = some i := by
        rw [State.lookup_corrected, found]
      rw [State.opQuery_found (s := (s.corrected (.line l) i).takeFrame l rest) cls keep covered found',
        ← State.takeFrame_corrected, ← State.queryFound_corrected (s := s.takeFrame l rest) f inTable single] at again
      rw [run, again]
    case double =>
      rw [run, State.queryFound_lost (s := s.takeFrame l rest) f inTable occupied double, State.takeFrame_lost]

/-! ## WITHDRAW -/

theorem State.opWithdraw_unknown {s : State} {l : LineId} {f : RxFrame} {n : Fin 16} (cls : s.active.classify l f.ident = some n)
    (keep : (s.active.classes.get n).disposition ≠ .drop) (covered : (s.active.classes.get n).selLen.val ≤ 8 * f.payload.length)
    (unknown : s.lookup (frameKey l f (s.active.classes.get n)) = none) : s.opWithdraw l f = s.count l .refused := by
  rw [State.opWithdraw, State.classified_run cls keep covered, unknown]

theorem State.opWithdraw_found {s : State} {l : LineId} {f : RxFrame} {n : Fin 16} {i : Nat} (cls : s.active.classify l f.ident = some n)
    (keep : (s.active.classes.get n).disposition ≠ .drop) (covered : (s.active.classes.get n).selLen.val ≤ 8 * f.payload.length)
    (found : s.lookup (frameKey l f (s.active.classes.get n)) = some i) : s.opWithdraw l f = s.withdrawFound l f i := by
  rw [State.opWithdraw, State.classified_run cls keep covered, found]

/-- Only a learned record that is not held can be withdrawn (R100). -/
theorem State.withdrawFound_barred {s : State} {l : LineId} {i : Nat} (f : RxFrame)
    (barred : (s.slotAt i).kind ≠ some .learned ∨ (s.slotAt i).held = true) : s.withdrawFound l f i = s.count l .refused := by
  unfold State.withdrawFound
  exact if_neg (by rcases barred with other | held <;> simp [*])

/-- A WITHDRAW of a clean learned record that is not held goes by the origin node (R100, R101). -/
theorem State.withdrawFound_clean {s : State} {l : LineId} {i : Nat} (f : RxFrame) (clean : (s.slotAt i).integrity = .clean)
    (learned : (s.slotAt i).kind = some .learned) (free : (s.slotAt i).held = false) : s.withdrawFound l f i =
      if (s.slotAt i).body.originNode = f.source then s.retireWith .withdrawn i else s.count l .refused := by
  unfold State.withdrawFound
  rw [if_pos (by simp [learned, free]), State.checkBody_clean _ clean, State.bodyLost_clean clean]
  rfl

/-- Settles O48: by the payload's length, the lookup, and the record it finds. -/
theorem withdrawalsRetireOrAreRefused : Obligations.WithdrawalsRetireOrAreRefused := by
  unfold Obligations.WithdrawalsRetireOrAreRefused
  intro l f rest n s released queue kind granted noRestart cls keep
  have run := exec_frame (exec_withdraw l) released queue kind granted noRestart
  refine ⟨fun short => ?_, fun covered => ⟨fun unknown => ?_, fun i found => ?_⟩⟩
  · rw [run, State.opWithdraw, State.classified_short (s := s.takeFrame l rest) cls keep short, State.takeFrame_frameRefused]
  · rw [run, State.opWithdraw_unknown (s := s.takeFrame l rest) cls keep covered unknown, State.takeFrame_frameRefused]
  · rw [State.opWithdraw_found (s := s.takeFrame l rest) cls keep covered found] at run
    obtain ⟨inTable, occupied⟩ := State.occupied_of_lookup found
    refine ⟨fun barred => ?barred, fun clean foreign => ?foreign, fun clean learned free origin => ?retired,
      fun learned free => ⟨fun single => ?single, fun double => ?double⟩⟩
    case barred => rw [run, State.withdrawFound_barred (s := s.takeFrame l rest) f barred, State.takeFrame_frameRefused]
    case foreign =>
      by_cases barred : (s.slotAt i).kind ≠ some .learned ∨ (s.slotAt i).held = true
      · rw [run, State.withdrawFound_barred (s := s.takeFrame l rest) f barred, State.takeFrame_frameRefused]
      · obtain ⟨learned, free⟩ : (s.slotAt i).kind = some .learned ∧ (s.slotAt i).held = false := by simpa using barred
        rw [run, State.withdrawFound_clean (s := s.takeFrame l rest) f clean learned free, if_neg (by exact foreign),
          State.takeFrame_frameRefused]
    case retired =>
      rw [State.withdrawFound_clean (s := s.takeFrame l rest) f clean learned free, if_pos (by exact origin)] at run
      obtain ⟨notices, conditions, -, -⟩ := State.postsAlike_retireWith .withdrawn i (State.postsAlike_takeFrame s l rest)
      have posts := State.postsAlike_post (s.handleAt i) .withdrawn (State.postsAlike_takeFrame s l rest)
      have line := (State.line_retireWith .withdrawn i (s.takeFrame l rest) l).trans
        (congrArg (LineState.dropPublish _) (State.line_takeFrame_self s l rest))
      refine ⟨_, run, State.retireWith_table _ _ _ _ _ _ _ _, line, ?_, fun k other => ?_, ?_, ?_, fun j other => ?_, notices, conditions,
        fun noNotice => ?_⟩
      · rw [line]
        exact (State.takenLine_keeps l rest s).1
      · rw [State.line_retireWith, State.line_takeFrame_ne s rest other]
        rfl
      · rw [State.retireWith, State.post_holds]
        rfl
      · rw [State.slotAt_retireWith_self _ (s.takeFrame l rest) inTable]
        exact congrArg (fun b => { (s.slotAt i).emptied with missed := b }) (posts.2.2.2 i)
      · rw [State.slotAt_retireWith_ne _ _ other]
        rfl
      · rw [notices]
        exact congrArg State.notices (State.post_empty (s.handleAt i) .withdrawn noNotice)
    case single =>
      have again := exec_frame (exec_withdraw l) (s := s.corrected (.line l) i) released queue kind granted noRestart
      have found' : (s.corrected (.line l) i).lookup (frameKey l f (s.active.classes.get n)) = some i := by
        rw [State.lookup_corrected, found]
      rw [State.opWithdraw_found (s := (s.corrected (.line l) i).takeFrame l rest) cls keep covered found',
        ← State.takeFrame_corrected, ← State.withdrawFound_corrected (s := s.takeFrame l rest) f inTable single learned free] at again
      rw [run, again]
    case double =>
      rw [run, State.withdrawFound_lost (s := s.takeFrame l rest) f inTable occupied double learned free, State.takeFrame_lost]

end Sys2Proof.Machine
end

section
/-! PROOFS. Learning, the restart purge, and the ends of waits. -/

namespace Sys2Proof.Machine

/-! ## Learning -/

theorem State.learn_noRegion {s : State} {l : LineId} {f : RxFrame} {n : Fin 16} {key : Key} (noRegion : s.layout.l = 0) :
    s.learn l f n key = s.count l .refused := if_pos noRegion

/-- A newborn record takes the lowest EMPTY slot of the learned region (R107). -/
theorem State.learn_empty {s : State} {l : LineId} {f : RxFrame} {n : Fin 16} {key : Key} {i : Nat} (region : s.layout.l ≠ 0)
    (found : s.firstEmpty .learned = some i) : s.learn l f n key = s.birth i l f n key := by
  unfold State.learn
  rw [if_neg region, found]

/-- With no EMPTY slot a newborn record takes the victim's (R109, R111). -/
theorem State.learn_victim {s : State} {l : LineId} {f : RxFrame} {n : Fin 16} {key : Key} {v : Nat} (region : s.layout.l ≠ 0)
    (full : s.firstEmpty .learned = none) (victim : s.findVictim = some v) :
    s.learn l f n key = (s.evictVictim v).birth v l f n key := by
  unfold State.learn
  rw [if_neg region, full]
  dsimp only
  rw [victim]

theorem State.learn_refused {s : State} {l : LineId} {f : RxFrame} {n : Fin 16} {key : Key} (region : s.layout.l ≠ 0)
    (full : s.firstEmpty .learned = none) (noVictim : s.findVictim = none) : s.learn l f n key = s.count l .refused := by
  unfold State.learn
  rw [if_neg region, full]
  dsimp only
  rw [noVictim]

theorem State.firstEmpty_learned {s : State} {i : Nat} (above : s.layout.b ≤ i) (below : i < s.layout.b + s.layout.l)
    (isEmpty : (s.slotAt i).state = .empty) (lowest : ∀ j < i, s.layout.b ≤ j → (s.slotAt j).state ≠ .empty) :
    s.firstEmpty .learned = some i :=
  find_range'_first above below (by simp [isEmpty]) fun j less from_ => by simpa using lowest j less from_

theorem State.firstEmpty_learned_none {s : State}
    (full : ∀ i, s.layout.b ≤ i → i < s.layout.b + s.layout.l → (s.slotAt i).state ≠ .empty) : s.firstEmpty .learned = none := by
  unfold State.firstEmpty
  rw [List.find?_eq_none]
  intro i member
  obtain ⟨above, below⟩ := List.mem_range'_1.1 member
  simpa using full i above below

/-- The place of the victim search after some steps (R109). -/
def State.victimPlace (s : State) (j : Nat) : Nat := s.layout.b + (s.victim - s.layout.b + j) % s.layout.l

theorem State.victimPlace_mem {s : State} (region : s.layout.l ≠ 0) (j : Nat) :
    s.layout.b ≤ s.victimPlace j ∧ s.victimPlace j < s.layout.b + s.layout.l := by
  have := Nat.mod_lt (s.victim - s.layout.b + j) (Nat.pos_of_ne_zero region)
  unfold State.victimPlace
  omega

theorem State.victimOrder_eq (s : State) : s.victimOrder = (List.range s.layout.l).map s.victimPlace := rfl

theorem Slot.firstPass_iff {x : Slot} : x.firstPass = true ↔ x.state = .faulted ∨ (x.state = .stale ∧ x.held = false) := by
  simp [Slot.firstPass]

/-- A search of the victim order that no place passes finds none. -/
theorem State.find_victimOrder_none {s : State} {p : Nat → Bool} (fails : ∀ j < s.layout.l, p (s.victimPlace j) = false) :
    s.victimOrder.find? p = none := by
  rw [State.victimOrder_eq, List.find?_eq_none]
  intro i member
  obtain ⟨j, inRange, rfl⟩ := List.mem_map.1 member
  simp [fails j (List.mem_range.1 inRange)]

/-- The victim by the first pass (R109). -/
theorem State.findVictim_first {s : State} {k : Nat} (inRange : k < s.layout.l) (passes : (s.slotAt (s.victimPlace k)).firstPass = true)
    (before : ∀ j < k, (s.slotAt (s.victimPlace j)).firstPass = false) : s.findVictim = some (s.victimPlace k) := by
  have search : s.victimOrder.find? (fun i => (s.slotAt i).firstPass) = some (s.victimPlace k) :=
    find_map_range_first inRange passes before
  unfold State.findVictim
  rw [search]

/-- The victim by the second pass: the first record that is not held (R109, R110). -/
theorem State.findVictim_second {s : State} (noFirst : ∀ j < s.layout.l, (s.slotAt (s.victimPlace j)).firstPass = false) :
    s.findVictim = s.victimOrder.find? fun i => !(s.slotAt i).held := by
  unfold State.findVictim
  rw [State.find_victimOrder_none noFirst]

/-- A victim's slot after the eviction and the birth; only its missed mark depends on the notices (R111, R112). -/
theorem State.bornOver_facts {u : State} {l : LineId} {f : RxFrame} {n : Fin 16} {key : Key} {v : Nat} (inTable : v < 512) :
    let announce := (u.active.classes.get n).announce
    let t := (u.evictVictim v).birth v l f n key
    { t with slots := u.slots, holds := u.holds, lines := u.lines, notices := u.notices, conditions := u.conditions } =
      { u with victim := u.victimAfter v } ∧
    (∀ k, t.line k = (u.line k).dropPublish (u.handleAt v)) ∧ (∀ j, j ≠ v → t.slotAt j = u.slotAt j) ∧
    t.holds = (u.holds.filter fun e => e.slot != v) ∧ t.postsAlike (u.learningNotices v announce) ∧
    t.slotAt v = { Slot.occupy .fresh .learned key (learnedBody l f n (u.active.classes.get n) u.tick) (u.slotAt v) with
      missed := ((u.learningNotices v announce).slotAt v).missed } := by
  intro announce t
  have active : (u.evictVictim v).active = u.active := State.retireWith_active (.evicted .replaced) v u
  have tick : (u.evictVictim v).tick = u.tick := State.retireWith_tick (.evicted .replaced) v u
  have evicted : (u.evictVictim v).slotAt v =
      { (u.slotAt v).emptied with missed := ((u.post (u.handleAt v) (.evicted .replaced)).slotAt v).missed } :=
    State.slotAt_retireWith_self (.evicted .replaced) u inTable
  have born : t = (((u.evictVictim v).setSlot v
      (Slot.occupy .fresh .learned key (learnedBody l f n (u.active.classes.get n) u.tick) ((u.evictVictim v).slotAt v))).postIf
        announce { slot := v, gen := (u.slotAt v).gen + 1 } .created) := by
    rw [← active, ← tick, show (u.slotAt v).gen = ((u.evictVictim v).slotAt v).gen by rw [evicted]; rfl]
    exact (State.birth_eq l f n key inTable).trans (by rw [active])
  have line : ∀ k, t.line k = (u.line k).dropPublish (u.handleAt v) := fun k => by
    rw [← State.line_retireWith (.evicted .replaced), born]
    simp [State.line, State.evictVictim]
  have alike : t.postsAlike (u.learningNotices v announce) := by
    rw [born]
    refine State.postsAlike_postIf _ _ _ (State.postsAlike_trans (State.postsAlike_setSlot rfl) ?_)
    exact State.postsAlike_retireWith (.evicted .replaced) v ⟨rfl, rfl, rfl, fun _ => rfl⟩
  refine ⟨?_, line, fun j other => ?_, ?_, alike, ?_⟩
  · rw [born]
    apply State.ext <;> simp [State.evictVictim]
  · rw [born, State.slotAt_postIf_ne _ _ _ _ other, State.slotAt_setSlot_ne _ _ other]
    exact State.slotAt_retireWith_ne _ u other
  · rw [born]
    simp [State.evictVictim, State.retireWith, State.retire, State.dropHold]
  · have slot := State.slotAt_postIf announce { slot := v, gen := (u.slotAt v).gen + 1 } .created ((u.evictVictim v).setSlot v
      (Slot.occupy .fresh .learned key (learnedBody l f n (u.active.classes.get n) u.tick) ((u.evictVictim v).slotAt v))) v
    rw [← born, State.slotAt_setSlot_self _ _ inTable, alike.2.2.2 v, evicted] at slot
    exact slot

/-- Settles O49: by the learned region, its lowest EMPTY slot, and else the victim. -/
theorem learningFillsTheLowestEmptySlot : Obligations.LearningFillsTheLowestEmptySlot := by
  unfold Obligations.LearningFillsTheLowestEmptySlot
  intro l f rest n s released queue kind granted noRestart cls learns covered unknown
  have keep : (s.active.classes.get n).disposition ≠ .drop := by rw [learns]; decide
  have run := exec_frame (exec_update l) released queue kind granted noRestart
  rw [State.opUpdate_unknown (s := s.takeFrame l rest) cls keep covered unknown, State.updateUnknown, if_pos (by exact learns)] at run
  refine ⟨fun noRegion => ?noRegion, fun i above below inTable isEmpty lowest => ?empty_, fun region fits full => ⟨fun allHeld => ?allHeld,
    fun k inRange chosen v place => ?victim⟩⟩
  case noRegion => rw [run, State.learn_noRegion (s := s.takeFrame l rest) noRegion, State.takeFrame_frameRefused]
  case empty_ =>
    have region : (s.takeFrame l rest).layout.l ≠ 0 := by
      show s.layout.l ≠ 0
      omega
    have found : (s.takeFrame l rest).firstEmpty .learned = some i := State.firstEmpty_learned above below isEmpty lowest
    rw [run, State.learn_empty region found, State.birth_eq _ _ _ _ inTable, State.takeFrame_eq]
    rfl
  case allHeld =>
    have noFree : ∀ j < s.layout.l, (s.slotAt (s.victimPlace j)).firstPass = false ∧ (!(s.slotAt (s.victimPlace j)).held) = false :=
      fun j _ => by
        obtain ⟨above, below⟩ := State.victimPlace_mem region j
        obtain ⟨sound, held⟩ := allHeld _ above below
        rw [← Bool.not_eq_true, Slot.firstPass_iff]
        simp [sound, held]
    have noVictim : (s.takeFrame l rest).findVictim = none :=
      (State.findVictim_second (s := s.takeFrame l rest) fun j less => (noFree j less).1).trans
        (State.find_victimOrder_none (s := s.takeFrame l rest) fun j less => (noFree j less).2)
    rw [run, State.learn_refused (s := s.takeFrame l rest) region (State.firstEmpty_learned_none full) noVictim,
      State.takeFrame_frameRefused]
  case victim =>
    have isPlace : v = s.victimPlace k := place
    have inTable : v < 512 := by
      have := State.victimPlace_mem region k
      omega
    have victim : (s.takeFrame l rest).findVictim = some v := by
      rw [isPlace]
      simp only [← Slot.firstPass_iff, Bool.not_eq_true] at chosen
      rcases chosen with ⟨passes, before⟩ | ⟨noFirst, free, before⟩
      · exact State.findVictim_first (s := s.takeFrame l rest) inRange passes before
      · refine (State.findVictim_second (s := s.takeFrame l rest) noFirst).trans ?_
        refine find_map_range_first (g := s.victimPlace) inRange ?_ fun j less => ?_
        · show (!(s.slotAt (s.victimPlace k)).held) = true
          rw [Bool.not_eq_true']
          exact free
        · show (!(s.slotAt (s.victimPlace j)).held) = false
          rw [Bool.not_eq_false']
          exact before j less
    rw [State.learn_victim (s := s.takeFrame l rest) region (State.firstEmpty_learned_none full) victim] at run
    obtain ⟨frame, lines, others, holds, posts, slot⟩ := State.bornOver_facts (u := s.takeFrame l rest) (l := l) (f := f) (n := n)
      (key := frameKey l f (s.active.classes.get n)) inTable
    have same := State.postsAlike_postIf (s.active.classes.get n).announce { slot := v, gen := (s.slotAt v).gen + 1 } .created
      (State.postsAlike_post (s.handleAt v) (.evicted .replaced) (State.postsAlike_takeFrame s l rest))
    have alike := State.postsAlike_trans posts same
    have line := (lines l).trans (congrArg (LineState.dropPublish _) (State.line_takeFrame_self s l rest))
    refine ⟨_, run, ?_, (congrArg (fun t : State => ({ t with lines := s.lines } : State)) frame).trans rfl, line, fun k other => ?_, others,
      holds, ?_, alike.1, alike.2.1⟩
    · exact (congrArg LineState.rxQueue line).trans (State.takenLine_keeps l rest s).1
    · exact (lines k).trans (congrArg (LineState.dropPublish _) (State.line_takeFrame_ne s rest other))
    · exact slot.trans (congrArg (fun b => { s.newborn l f n v with missed := b }) (same.2.2.2 v))

/-! ## The restart purge -/

/-- The end of a restart request (R47). -/
def State.endRestart (l : LineId) (u : State) : State := u.modifyLine l fun ln => { ln with restartRequest := false }

theorem State.slotAt_endRestart (l : LineId) (u : State) (i : Nat) : (u.endRestart l).slotAt i = u.slotAt i := rfl
theorem State.holds_endRestart (l : LineId) (u : State) : (u.endRestart l).holds = u.holds := rfl
theorem State.notices_endRestart (l : LineId) (u : State) : (u.endRestart l).notices = u.notices := rfl
theorem State.conditions_endRestart (l : LineId) (u : State) : (u.endRestart l).conditions = u.conditions := rfl

theorem State.line_endRestart (l k : LineId) (u : State) :
    (u.endRestart l).line k = if k = l then { u.line l with restartRequest := false } else u.line k := State.line_modifyLine u l k _

theorem State.endRestart_table (l : LineId) (u : State) (a : Vector Slot 512) (b : List HoldEntry) (c : Vector LineState 4)
    (d : List Notice) (e : Conditions) :
    { u.endRestart l with slots := a, holds := b, lines := c, notices := d, conditions := e } =
      { u with slots := a, holds := b, lines := c, notices := d, conditions := e } := rfl

theorem State.restartPurge_eq (l : LineId) (s : State) :
    s.restartPurge l = (s.retireAll (Slot.learnedFrom l) (.evicted .lineRestart)).endRestart l := by
  unfold State.restartPurge State.endRestart
  with_reducible rfl

theorem Slot.learnedFrom_reset (l : LineId) : Slot.learnedFrom l Slot.reset = false := rfl

/-- The restart purge, part by part (R47). -/
theorem State.restartPurge_facts (l : LineId) (s : State) :
    { s.restartPurge l with slots := s.slots, holds := s.holds, lines := s.lines, notices := s.notices, conditions := s.conditions } = s ∧
    (∀ i, (s.restartPurge l).slotAt i = (s.retireAll (Slot.learnedFrom l) (.evicted .lineRestart)).slotAt i) ∧
    (s.restartPurge l).holds = (s.holds.filter fun e => !(s.slotAt e.slot).learnedFrom l) ∧
    (s.restartPurge l).line l = { s.lineWithout (Slot.learnedFrom l) l with restartRequest := false } ∧
    (∀ k, k ≠ l → (s.restartPurge l).line k = s.lineWithout (Slot.learnedFrom l) k) ∧
    (s.restartPurge l).notices = (s.evictions (Slot.learnedFrom l) .lineRestart).notices ∧
    (s.restartPurge l).conditions = (s.evictions (Slot.learnedFrom l) .lineRestart).conditions := by
  obtain ⟨notices, conditions, -, -⟩ := State.postsAlike_retireAll (Slot.learnedFrom l) .lineRestart s
  rw [State.restartPurge_eq]
  refine ⟨?_, State.slotAt_endRestart l _, ?_, ?_, fun k other => ?_, ?_, ?_⟩
  · rw [State.endRestart_table, State.retireAll_rest]
  · rw [State.holds_endRestart, State.retireAll_holds _ _ (Slot.learnedFrom_reset l)]
  · rw [State.line_endRestart, if_pos rfl, State.line_retireAll]
  · rw [State.line_endRestart, if_neg other, State.line_retireAll]
  · rw [State.notices_endRestart, notices]
  · rw [State.conditions_endRestart, conditions]

theorem exec_restartPurge {l : LineId} {s : State} (released : s.resetHeld = false) (asked : (s.line l).restartRequest = true)
    (granted : s.grantNext = some (.line l)) : exec (.restartPurge l) s = .next ((s.grantLine l).restartPurge l) :=
  (whilePowered_released _ released).trans (congrArg _ (State.restartStep_granted asked granted))

/-- Settles O50: the retirement of many records after the grant, with the request ended. -/
theorem restartPurgeClearsALine : Obligations.RestartPurgeClearsALine := by
  unfold Obligations.RestartPurgeClearsALine
  intro l s released asked granted
  obtain ⟨frame, slots, holds, line, others, notices, conditions⟩ := State.restartPurge_facts l (s.grantLine l)
  have retired := State.slotAt_retireAll_evictions .lineRestart (s.grantLine l) (Slot.learnedFrom_reset l)
  have alike : (s.grantLine l).postsAlike s := ⟨rfl, rfl, rfl, fun _ => rfl⟩
  have sameSlots : ∀ i, (s.grantLine l).slotAt i = s.slotAt i := fun _ => rfl
  obtain ⟨sameNotices, sameConditions, -, sameMissed⟩ :=
    State.evictions_congr (pick := Slot.learnedFrom l) (reason := .lineRestart) alike sameSlots
  have counters : ∀ k, (((s.grantLine l).restartPurge l).line k).counters = (s.line k).counters := fun k => by
    by_cases same : k = l
    · rw [same, line]
      rfl
    · rw [others k same]
      rfl
  refine ⟨_, exec_restartPurge released asked granted, frame, fun i => ⟨fun learned => ?_, fun other => ?_⟩, holds, line, others, ?_, ?_, counters,
    notices.trans sameNotices, conditions.trans sameConditions, fun noNotice few => ?_⟩
  · rw [slots, (retired i).1 learned, sameMissed]
    rfl
  · rw [slots, (retired i).2 other]
    rfl
  · rw [line]
  · rw [line]
    rfl
  · have room := State.evictions_room (s := s) (pick := Slot.learnedFrom l) (reason := .lineRestart) noNotice few
    refine ⟨(conditions.trans sameConditions).trans (by rw [room]), fun i => ?_, (notices.trans sameNotices).trans (by rw [room])⟩
    rw [slots]
    by_cases learned : (s.slotAt i).learnedFrom l
    · rw [(retired i).1 learned]
      dsimp only
      rw [sameMissed, State.slotAt_evictions_room noNotice few]
    · rw [(retired i).2 (Bool.not_eq_true _ ▸ learned)]
      rfl

/-! ## Waits that end -/

/-- Once the oldest entry has waited the hold-off, NOTICE_N is asserted, and the waits alone have changed (R165). -/
theorem State.holdOffOver_asserts {s : State} {head : Notice} {rest : List Notice} (queue : s.notices = head :: rest) :
    s.holdOffOver.noticeN = true ∧ { s.holdOffOver with notices := s.notices } = s ∧
    s.holdOffOver.notices.map (fun e => (e.handle, e.kind, e.tick)) = s.notices.map (fun e => (e.handle, e.kind, e.tick)) := by
  have expired : s.holdOffOver = { s with notices := s.notices.map (Notice.wait (s.holdOff - head.waited)) } := by
    unfold State.holdOffOver
    rw [queue]
  have waited : s.holdOff ≤ head.waited + (s.holdOff - head.waited) := by omega
  rw [expired]
  refine ⟨?_, rfl, ?_⟩
  · simp [State.noticeN, State.noticeDue, queue, Notice.wait, waited]
  · simp [Notice.wait, Function.comp_def]

/-- Settles O51: the oldest notice reaches the hold-off; the pause set loses what is due. -/
theorem waitsThatEnd : Obligations.WaitsThatEnd := by
  unfold Obligations.WaitsThatEnd
  intro l s released
  refine ⟨fun waiting => ?_, whilePowered_released _ released⟩
  obtain ⟨head, rest, queue⟩ := List.exists_cons_of_ne_nil waiting
  exact ⟨_, whilePowered_released _ released, State.holdOffOver_asserts queue⟩

end Sys2Proof.Machine
end

section
/-! PROOFS. The receivers, and the delivery of complete frames. -/

namespace Sys2Proof.Machine

/-! ## The receiver of one line -/

theorem LineState.receive_ignores (c : Byte) {ln : LineState} (deaf : ln.rx = .waiting ∨ ln.rx = .discarding ∨ ln.rx = .stopped) :
    ln.receive c = ln := by
  unfold LineState.receive
  rcases deaf with rx | rx | rx <;> rw [rx]

theorem LineState.receive_assembling (c : Byte) {ln : LineState} {chars : List Byte} (rx : ln.rx = .assembling chars) :
    ln.receive c = ln.gather (chars ++ [c]) := by
  unfold LineState.receive
  rw [rx]

theorem LineState.receive_complete (c : Byte) {ln : LineState} {f : RxFrame} (rx : ln.rx = .complete f) : ln.receive c = ln.spoil := by
  unfold LineState.receive
  rw [rx]

/-- The first character of a frame is gathered (R64). -/
theorem LineState.receive_ready (c : Byte) {ln : LineState} (rx : ln.rx = .ready) : ln.receive c = { ln with rx := .assembling [c] } := by
  have short : badLength [c] = false := rfl
  have partial_ : isWhole [c] = false := rfl
  unfold LineState.receive
  rw [rx]
  dsimp only
  rw [LineState.gather, short, partial_]
  rfl

theorem LineState.gather_on {ln : LineState} {chars : List Byte} (length : badLength chars = false) (whole : isWhole chars = false) :
    ln.gather chars = { ln with rx := .assembling chars } := by
  rw [LineState.gather, length, whole]
  rfl

theorem LineState.gather_complete {ln : LineState} {chars : List Byte} {f : RxFrame} (length : badLength chars = false)
    (whole : isWhole chars = true) (good : judgeFrame ln.settings.node chars = some f) : ln.gather chars = { ln with rx := .complete f } := by
  rw [LineState.gather, length, whole, good]
  rfl

/-- A frame judged bad is counted once (R64). -/
theorem LineState.gather_bad {ln : LineState} {chars : List Byte} (bad : judgedBad ln.settings.node chars = true) :
    ln.gather chars = ln.spoil := by
  simp only [judgedBad, Bool.or_eq_true, Bool.and_eq_true, Option.isNone_iff_eq_none] at bad
  unfold LineState.gather
  rcases bad with length | ⟨whole, judged⟩
  · rw [if_pos length]
  · rw [whole, judged]
    simp

/-- A character error spoils a frame that is awaited, in assembly or complete (R64, R65). -/
theorem LineState.receiveError_spoils {ln : LineState}
    (open_ : ln.rx = .ready ∨ (∃ chars, ln.rx = .assembling chars) ∨ ∃ f, ln.rx = .complete f) : ln.receiveError = ln.spoil := by
  unfold LineState.receiveError
  rcases open_ with rx | ⟨_, rx⟩ | ⟨_, rx⟩ <;> rw [rx]

theorem LineState.receiveError_ignores {ln : LineState} (deaf : ln.rx = .waiting ∨ ln.rx = .discarding ∨ ln.rx = .stopped) :
    ln.receiveError = ln := by
  unfold LineState.receiveError
  rcases deaf with rx | rx | rx <;> rw [rx]

/-- A break at a receiver that runs and does not compare an echo is counted once (R66). -/
theorem LineState.receiveBreak_counts {ln : LineState} (runs : ln.rx ≠ .stopped) (noEcho : ln.rx ≠ .echo) :
    ln.receiveBreak = { ln.count .badFrame with rx := .waiting } := by
  unfold LineState.receiveBreak
  split
  · exact absurd ‹_› runs
  · exact absurd ‹_› noEcho
  · rfl

theorem LineState.receiveLevels_error {w : WireChar} (start : w.getLsbD 0 = false) (noBreak : w ≠ 0)
    (wrong : w.getLsbD 10 = false ∨ ((List.range 9).countP fun k => w.getLsbD (k + 1)) % 2 = 1) (ln : LineState) :
    ln.receiveLevels w = ln.receiveError := by
  rw [LineState.receiveLevels, readCharacter_error start noBreak (charSound_eq_false w wrong)]

theorem LineState.receiveLevels_break (ln : LineState) : ln.receiveLevels 0 = ln.receiveBreak := rfl

/-! ## The events of a receiver on a line that is not sending -/

section
variable {l : LineId} {s : State} (released : s.resetHeld = false)
include released

theorem exec_lineBreak (silent : (s.line l).isSending = false) :
    exec (.lineBreak l) s = .next (s.modifyLine l LineState.receiveBreak) :=
  (whilePowered_released _ released).trans (congrArg _ (if_neg (by simp [silent])))

variable (silent : (s.line l).isSending = false)
include silent

theorem exec_characterReceived (w : WireChar) :
    exec (.characterReceived l w) s = .next (s.modifyLine l (·.receiveLevels w)) :=
  (whilePowered_released _ released).trans (congrArg _ (State.hear_receives silent))

/-- A good character, with what the receiver makes of it. -/
theorem exec_characterReceived_good {c : Byte} {x : LineState} (becomes : (s.line l).receive c = x) :
    exec (.characterReceived l (wireChar c)) s = .next (s.withLine l x) := by
  rw [exec_characterReceived released silent, State.modifyLine_to ((LineState.receiveLevels_wireChar c _).trans becomes)]

/-- A character error is the same event as BAD_FRAME (R64). -/
theorem exec_badFrame_error {w : WireChar} (start : w.getLsbD 0 = false) (noBreak : w ≠ 0)
    (wrong : w.getLsbD 10 = false ∨ ((List.range 9).countP fun k => w.getLsbD (k + 1)) % 2 = 1) :
    exec (.badFrame l w) s = exec (.characterReceived l w) s := by
  have run : exec (.badFrame l w) s = .next (s.badFrameStep l w) := whilePowered_released _ released
  have heard : s.badFrameStep l w = s.modifyLine l LineState.receiveError := by
    rw [State.badFrameStep, readCharacter_error start noBreak (charSound_eq_false w wrong)]
    exact if_neg (by simp [silent])
  rw [run, heard, exec_characterReceived released silent,
    State.modifyLine_to (g := (·.receiveLevels w)) (LineState.receiveLevels_error start noBreak wrong _)]
  rfl

omit silent in
/-- A good character that makes the frame in assembly bad (R64). -/
theorem exec_badFrame_judged {c : Byte} {chars : List Byte} (rx : (s.line l).rx = .assembling chars)
    (bad : judgedBad (s.line l).settings.node (chars ++ [c]) = true) :
    exec (.badFrame l (wireChar c)) s = .next (s.withLine l (s.line l).spoil) := by
  have run : exec (.badFrame l (wireChar c)) s = .next (s.badFrameStep l (wireChar c)) := whilePowered_released _ released
  have gathered : (s.line l).rx.charsWith c = some (chars ++ [c]) := by rw [rx]; rfl
  rw [run, State.badFrameStep, readCharacter_wireChar]
  dsimp only
  rw [gathered]
  exact congrArg _ (if_pos bad)

end

/-- Settles O52: the characters of R62, then each event by the state of the receiver. -/
theorem receiversGatherAndJudge : Obligations.ReceiversGatherAndJudge := by
  unfold Obligations.ReceiversGatherAndJudge
  refine ⟨wireChar_bits, fun l c s released silent => ⟨fun deaf => ?deaf, fun ready => ?ready, fun chars assembling length part => ?on,
    fun chars f assembling length whole good => ?complete, fun w start noBreak wrong => ⟨fun hears => ?error, fun deaf => ?deafError,
    exec_badFrame_error released silent start noBreak wrong⟩, ?lineLow, fun chars assembling => ⟨?truncated, fun bad => ?judged⟩,
    fun f complete => ?overlong, fun runs noEcho => ?break_, fun waits => ?gap⟩⟩
  case deaf =>
    rw [exec_characterReceived_good released silent (LineState.receive_ignores c deaf), State.withLine_self]
  case ready => exact exec_characterReceived_good released silent (LineState.receive_ready c ready)
  case on =>
    exact exec_characterReceived_good released silent
      ((LineState.receive_assembling c assembling).trans (LineState.gather_on length part))
  case complete =>
    exact exec_characterReceived_good released silent
      ((LineState.receive_assembling c assembling).trans (LineState.gather_complete length whole good))
  case error =>
    rw [exec_characterReceived released silent,
      State.modifyLine_to (g := (·.receiveLevels w))
        ((LineState.receiveLevels_error start noBreak wrong _).trans (LineState.receiveError_spoils hears))]
    rfl
  case deafError =>
    rw [exec_characterReceived released silent,
      State.modifyLine_self ((LineState.receiveLevels_error start noBreak wrong _).trans (LineState.receiveError_ignores deaf))]
  case lineLow => rw [exec_characterReceived released silent, exec_lineBreak released silent]; rfl
  case truncated =>
    have cut : (s.line l).truncate = { (s.line l).count .badFrame with rx := .ready } := by rw [LineState.truncate, assembling]
    exact (whilePowered_released _ released).trans (congrArg _ (State.modifyLine_to cut))
  case judged =>
    have event := exec_badFrame_judged (c := c) released assembling bad
    refine ⟨event, ?_⟩
    rw [event]
    exact exec_characterReceived_good released silent ((LineState.receive_assembling c assembling).trans (LineState.gather_bad bad))
  case overlong =>
    have spoils : (s.line l).overlong = (s.line l).spoil := by rw [LineState.overlong, complete]
    have event : exec (.overlongFrame l) s = .next (s.withLine l (s.line l).spoil) :=
      (whilePowered_released _ released).trans (congrArg _ (State.modifyLine_to spoils))
    refine ⟨event, ?_⟩
    rw [event]
    exact exec_characterReceived_good released silent (LineState.receive_complete c complete)
  case break_ =>
    rw [exec_lineBreak released silent, State.modifyLine_to (LineState.receiveBreak_counts runs noEcho)]
    rfl
  case gap =>
    have event : exec (.receiverIdleGap l) s = .next (s.idleGap l) := whilePowered_released _ released
    rw [event, State.idleGap]
    rcases waits with rx | rx <;> rw [rx] <;> rfl

/-! ## Delivery -/

theorem State.deliver_data {l : LineId} {f : RxFrame} (s : State) (data : f.kind = .update ∨ f.kind = .query ∨ f.kind = .withdraw) :
    s.deliver l f = (s.joinQueue l f).receiverReady l := by
  unfold State.deliver
  rcases data with kind | kind | kind <;> rw [kind]

theorem exec_dataFrameDelivery {l : LineId} {f : RxFrame} {s : State} (released : s.resetHeld = false) (complete : (s.line l).rx = .complete f)
    (data : f.kind = .update ∨ f.kind = .query ∨ f.kind = .withdraw) :
    exec (.dataFrameDelivery l) s = .next ((s.joinQueue l f).receiverReady l) := by
  have isData : FrameKind.isData f.kind = true := by rcases data with kind | kind | kind <;> rw [kind] <;> rfl
  refine (whilePowered_released _ released).trans (congrArg _ ?_)
  rw [State.deliverIf_kind complete isData, State.deliver_data s data]

/-- A data frame that joins a queue with room (R68). -/
theorem State.joinQueue_room {l : LineId} {f : RxFrame} {s : State} (room : (s.line l).rxQueue.length < 8) :
    (s.joinQueue l f).receiverReady l = s.withLine l
      { LineState.flowOnJoin s.flowActs { s.line l with rxQueue := (s.line l).rxQueue ++ [f] } with rx := .ready } := by
  unfold State.joinQueue
  rw [if_pos room]
  exact State.setLine_receiverReady s l _

/-- A data frame that a full queue drops (R68). -/
theorem State.joinQueue_full {l : LineId} {f : RxFrame} {s : State} (full : 8 ≤ (s.line l).rxQueue.length) :
    (s.joinQueue l f).receiverReady l = { s.withLine l { s.line l with
        rx := .ready, counters := { (s.line l).counters with overrun := sat16 (s.line l).counters.overrun } } with
      conditions := { s.conditions with lineOverrun := true } } := by
  unfold State.joinQueue
  rw [if_neg (by omega)]
  exact congrArg (fun t : State => t.raise .lineOverrun) (State.setLine_receiverReady s l ((s.line l).count .overrun))

/-- A node that pauses joins the pause set, or has its deadline renewed; the other nodes stay (R71). -/
theorem LineState.pauseFrom_facts (node : Byte) (deadline : Tick) (ln : LineState) :
    { ln.pauseFrom node deadline with pauseSet := ln.pauseSet } = ln ∧
    (∀ e ∈ (ln.pauseFrom node deadline).pauseSet, e.1 = node → e.2 = deadline) ∧
    (∃ e ∈ (ln.pauseFrom node deadline).pauseSet, e.1 = node) ∧
    ∀ e, e.1 ≠ node → (e ∈ (ln.pauseFrom node deadline).pauseSet ↔ e ∈ ln.pauseSet) := by
  unfold LineState.pauseFrom
  by_cases listed : (ln.pauseSet.any fun e => e.1 == node) = true
  · rw [if_pos listed]
    obtain ⟨old, member, named⟩ : ∃ e ∈ ln.pauseSet, e.1 = node := by simpa using listed
    refine ⟨rfl, fun e mem own => ?_, ⟨(node, deadline), ?_, rfl⟩, fun e other => ?_⟩
    · obtain ⟨x, -, rfl⟩ := List.mem_map.1 mem
      by_cases same : x.1 = node
      · rw [if_pos same]
      · rw [if_neg same] at own
        exact absurd own same
    · exact List.mem_map.2 ⟨old, member, if_pos named⟩
    · refine ⟨fun mem => ?_, fun mem => List.mem_map.2 ⟨e, mem, if_neg other⟩⟩
      obtain ⟨x, inSet, rfl⟩ := List.mem_map.1 mem
      by_cases same : x.1 = node
      · rw [if_pos same] at other
        exact absurd rfl other
      · rw [if_neg same]
        exact inSet
  · rw [if_neg listed]
    have absent : ∀ e ∈ ln.pauseSet, e.1 ≠ node := fun e mem own => listed (List.any_eq_true.2 ⟨e, mem, by simp [own]⟩)
    refine ⟨rfl, fun e mem own => ?_, ⟨(node, deadline), by simp, rfl⟩, fun e other => ?_⟩
    · rcases List.mem_append.1 mem with old | new
      · exact absurd own (absent e old)
      · rw [List.mem_singleton.1 new]
    · have : e ≠ (node, deadline) := fun same => other (by rw [same])
      simp [this]

/-- Settles O53: by the kind of the frame, and the room in the queue. -/
theorem completeFramesAreDelivered : Obligations.CompleteFramesAreDelivered := by
  unfold Obligations.CompleteFramesAreDelivered
  intro l f s released complete
  refine ⟨fun data room => ?joins, fun data full => ?drops, fun pause => ?pauses, fun resume => ?resumes⟩
  case joins =>
    have run := (exec_dataFrameDelivery released complete data).trans (congrArg _ (State.joinQueue_room room))
    have length : ((s.line l).rxQueue ++ [f]).length = (s.line l).rxQueue.length + 1 := by simp
    refine ⟨run, fun ⟨mode, settled, flow, high, flowing⟩ => ?_, fun still => ?_⟩
    · rw [run, LineState.flowOnJoin_acts (ln := { s.line l with rxQueue := (s.line l).rxQueue ++ [f] })
        ⟨State.flowActs_iff.2 ⟨mode, settled⟩, flow, by rw [length]; exact high, flowing⟩]
    · rw [run, LineState.flowOnJoin_leaves]
      rintro ⟨acts, flow, high, flowing⟩
      obtain ⟨mode, settled⟩ := State.flowActs_iff.1 acts
      exact still ⟨mode, settled, flow, by rw [← length]; exact high, flowing⟩
  case drops => exact (exec_dataFrameDelivery released complete data).trans (congrArg _ (State.joinQueue_full full))
  case pauses =>
    have run : exec (.pause l) s = .next (s.withLine l
        { (s.line l).pauseFrom f.source (s.tick + (s.line l).settings.timeout.setWidth 32) with rx := .ready }) := by
      refine (whilePowered_released _ released).trans (congrArg _ ?_)
      rw [State.deliverIf_kind complete (by rw [pause]; rfl), State.deliver, pause]
      exact State.setLine_receiverReady s l _
    obtain ⟨rest, own, listed, others⟩ :=
      LineState.pauseFrom_facts f.source (s.tick + (s.line l).settings.timeout.setWidth 32) (s.line l)
    generalize (s.line l).pauseFrom f.source (s.tick + (s.line l).settings.timeout.setWidth 32) = x at run rest own listed others
    have line : (s.withLine l { x with rx := .ready }).line l = { x with rx := .ready } :=
      (State.line_setLine s l l _).trans (if_pos rfl)
    refine ⟨_, run, ?_, rfl, fun k other => (State.line_setLine s l k _).trans (if_neg other), ?_⟩
    · rw [line]
    · rw [line]
      exact ⟨congrArg (fun y : LineState => { y with rx := (s.line l).rx }) rest, own, listed, others⟩
  case resumes =>
    refine (whilePowered_released _ released).trans (congrArg _ ?_)
    rw [State.deliverIf_kind complete (by rw [resume]; rfl), State.deliver, resume]
    exact State.setLine_receiverReady s l _

end Sys2Proof.Machine
end

section
/-! PROOFS. The transmitters. -/

namespace Sys2Proof.Machine

/-! ## Starts -/

theorem exec_frameStart (l : LineId) {s : State} (released : s.resetHeld = false) : exec (.frameStart l) s = .next (s.startStep l) :=
  whilePowered_released _ released

/-- The control entry goes first (R73). -/
theorem State.startStep_control {l : LineId} {s : State} {c : Control} (may : s.mayStart l = true) (control : (s.line l).control = some c) :
    s.startStep l = s.withLine l
      (LineState.launch (.control c) (controlBytes (s.line l).settings.node c) { s.line l with control := none }) := by
  unfold State.startStep
  dsimp only
  rw [if_pos may, control]
  rfl

/-- With no control entry and no node pausing, the first data entry of the send order goes (R72, R73, R130). -/
theorem State.startStep_data {l : LineId} {s : State} {e : DataEntry} (may : s.mayStart l = true) (noControl : (s.line l).control = none)
    (noPause : (s.line l).pauseSet = []) (first : firstToSend (s.line l).data = some e) :
    s.startStep l = s.withLine l
      (LineState.launch (.data e.item) (s.dataBytes (s.line l).settings.node e) { s.line l with data := (s.line l).data.erase e }) := by
  unfold State.startStep
  dsimp only
  rw [if_pos may, noControl]
  dsimp only
  rw [if_pos noPause, first]
  rfl

/-! ## The end of a frame in flight -/

theorem LineState.holdAfterFlight_off {ln : LineState} (off : ln.hold = .off) : ln.holdAfterFlight = ln := by
  unfold LineState.holdAfterFlight
  rw [off]

/-- A WAITING hold breaks the line once no frame is in flight (R79). -/
theorem LineState.holdAfterFlight_waiting {ln : LineState} {d : Half} {r : Bool} (waiting : ln.hold = .waiting d r)
    (quiet : ln.flight = none) : ln.holdAfterFlight = ln.startBreak d r := by
  unfold LineState.holdAfterFlight
  rw [waiting, quiet]

section
variable {l : LineId} {s : State} {f : Flight} (released : s.resetHeld = false) (flying : (s.line l).flight = some f)
  (sending : f.sending = true)
include released flying sending

theorem exec_frameSent :
    exec (.frameSent l) s = .next (s.withLine l ((s.line l).sent (s.lineActive l) s.flowActs f.item)) := by
  refine (whilePowered_released _ released).trans (congrArg _ ?_)
  unfold State.sentStep
  rw [flying]
  exact if_pos sending

theorem exec_collision : exec (.collision l) s = .next
    (if f.collisions + 1 < 4 then s.withLine l ((s.line l).collide (s.lineActive l) s.flowActs f)
     else (s.withLine l ((s.line l).collide (s.lineActive l) s.flowActs f)).raise .lineCollision) := by
  refine (whilePowered_released _ released).trans (congrArg _ ?_)
  unfold State.collisionStep
  rw [flying]
  exact if_pos sending

/-- The first three collisions of a frame send it into backoff (R75). -/
theorem exec_collision_backs (few : f.collisions < 3) : exec (.collision l) s = .next (s.withLine l { s.line l with
    rx := if s.lineActive l then .waiting else (s.line l).rx,
    counters := { (s.line l).counters with collisions := sat16 (s.line l).counters.collisions },
    flight := some { f with collisions := f.collisions + 1, sending := false, echoed := 0 } }) := by
  have few' : f.collisions + 1 < 4 := by omega
  rw [exec_collision released flying sending, if_pos few', LineState.collide, if_pos few']
  rfl

/-- The fourth collision of a frame drops it; what the line then counts or does is by its kind (R76). -/
theorem exec_collision_drops (fourth : f.collisions = 3) {x : LineState}
    (drops : LineState.countDrop s.flowActs f.item { s.line l with
      rx := if s.lineActive l then .waiting else (s.line l).rx,
      counters := { (s.line l).counters with collisions := sat16 (s.line l).counters.collisions }, flight := none } = x)
    (off : x.hold = .off) :
    exec (.collision l) s = .next { s.withLine l x with conditions := { s.conditions with lineCollision := true } } := by
  have many : ¬f.collisions + 1 < 4 := by omega
  have becomes : (s.line l).collide (s.lineActive l) s.flowActs f = x := by
    rw [LineState.collide, if_neg many]
    exact (congrArg LineState.holdAfterFlight drops).trans (LineState.holdAfterFlight_off off)
  rw [exec_collision released flying sending, if_neg many, becomes]
  rfl

/-! ## Echoes -/

/-- A character heard while the transmitter sends is compared with the one sent (R74). -/
theorem exec_characterReceived_sending (w : WireChar) : exec (.characterReceived l w) s = .next (s.echoStep l f w) := by
  refine (whilePowered_released _ released).trans (congrArg _ ?_)
  unfold State.hear
  rw [flying]
  exact if_pos sending

end

theorem State.echoStep_goesOn {l : LineId} {s : State} {f : Flight} {c : Byte} (sent : f.bytes[f.echoed]? = some c)
    (more : f.echoed + 1 < f.bytes.length) : s.echoStep l f (wireChar c) =
      s.withLine l { s.line l with flight := some { f with echoed := f.echoed + 1 } } := by
  unfold State.echoStep
  rw [sent, if_pos (by rfl), if_neg (by omega)]
  rfl

theorem State.echoStep_ends {l : LineId} {s : State} {f : Flight} {c : Byte} (sent : f.bytes[f.echoed]? = some c)
    (last : f.echoed + 1 = f.bytes.length) : s.echoStep l f (wireChar c) = s.sentStep l := by
  unfold State.echoStep
  rw [sent, if_pos (by rfl), if_pos last]

theorem State.echoStep_collides {l : LineId} {s : State} {f : Flight} {w : WireChar}
    (differs : ∀ c, f.bytes[f.echoed]? = some c → w ≠ wireChar c) : s.echoStep l f w = s.collisionStep l := by
  refine if_neg fun same => ?_
  obtain ⟨c, sent, heard⟩ := Option.map_eq_some_iff.1 same
  exact differs c sent heard.symm

/-! ## The flow control once more -/

theorem LineState.flowAgain_high {acts : Bool} {ln : LineState} (high : ln.settings.high ≤ ln.rxQueue.length) :
    ln.flowAgain acts = ln.flowOnJoin acts := if_pos high

theorem LineState.flowAgain_low {acts : Bool} {ln : LineState} (low : ln.rxQueue.length < ln.settings.high) :
    ln.flowAgain acts = ln.flowOnFall acts := if_neg (by omega)

/-- The flow control neither starts nor ends a hold. -/
theorem LineState.flowAgain_hold (acts : Bool) (ln : LineState) : (ln.flowAgain acts).hold = ln.hold := by
  unfold LineState.flowAgain
  split
  · rw [LineState.flowOnJoin_eq]
  · rw [LineState.flowOnFall_eq]

/-- Where the flow control does not act, or a line has none, the count changes nothing (R70). -/
theorem LineState.flowAgain_leaves {acts : Bool} {ln : LineState} (off : acts = false ∨ ln.settings.flow = false) :
    ln.flowAgain acts = ln := by
  have idle : ¬(acts = true ∧ ln.settings.flow = true) := by rcases off with h | h <;> simp [h]
  unfold LineState.flowAgain
  split
  · exact LineState.flowOnJoin_leaves fun ⟨on, flow, _⟩ => idle ⟨on, flow⟩
  · exact LineState.flowOnFall_leaves fun ⟨on, flow, _⟩ => idle ⟨on, flow⟩

/-- The count between the marks, or beyond a mark in the flow state that the mark asks for, changes nothing (R70). -/
theorem LineState.flowAgain_settled {ln : LineState} (settled : (ln.settings.high ≤ ln.rxQueue.length ∧ ln.toldPaused) ∨
    (ln.rxQueue.length < ln.settings.high ∧ (ln.settings.low < ln.rxQueue.length ∨ ¬ln.toldPaused))) : ln.flowAgain true = ln := by
  rcases settled with ⟨high, told⟩ | ⟨low, between⟩
  · rw [LineState.flowAgain_high high]
    exact LineState.flowOnJoin_leaves fun ⟨_, _, _, flowing⟩ => flowing told
  · rw [LineState.flowAgain_low low]
    refine LineState.flowOnFall_leaves fun ⟨_, _, atLow, told⟩ => ?_
    rcases between with above | flowing
    · omega
    · exact flowing told

/-- Settles O54: starts, ends and collisions of a frame, its echo, the flow control, and the retry. -/
theorem transmittersSendAndBackOff : Obligations.TransmittersSendAndBackOff := by
  unfold Obligations.TransmittersSendAndBackOff
  intro l s released
  refine ⟨fun c may control => ?control, fun e may noControl noPause _ highest first => ?data, fun f flying sending off => ?flight,
    fun f flying sending => ?echo, fun ln => ?flow, fun f d r x flying sending waiting item => ?breaks, fun f flying backoff ready => ?retry⟩
  case control => exact (exec_frameStart l released).trans (congrArg _ (State.startStep_control may control))
  case data =>
    exact (exec_frameStart l released).trans
      (congrArg _ (State.startStep_data may noControl noPause (firstToSend_of_highest highest first)))
  case flight =>
    refine ⟨fun d item => ?_, fun c item => ?_, exec_collision_backs released flying sending, fun fourth => ⟨fun h item => ?_,
      fun stale ident item => ?_, fun c item => ?_⟩⟩
    · rw [exec_frameSent released flying sending, item]
      exact congrArg (fun x => Host.Outcome.next (s.withLine l x)) (LineState.holdAfterFlight_off off)
    · rw [exec_frameSent released flying sending, item]
      exact congrArg (fun x => Host.Outcome.next (s.withLine l x)) (LineState.holdAfterFlight_off off)
    · exact exec_collision_drops released flying sending fourth (by rw [item]; rfl) off
    · exact exec_collision_drops released flying sending fourth (by rw [item]; rfl) off
    · exact exec_collision_drops released flying sending fourth (by rw [item]; rfl) ((LineState.flowAgain_hold _ _).trans off)
  case echo =>
    have heard := exec_characterReceived_sending released flying sending
    refine ⟨fun c sent more => ?_, fun c sent last => ?_, fun w differs => ?_⟩
    · rw [heard, State.echoStep_goesOn sent more]
    · rw [heard, State.echoStep_ends sent last]
      exact (whilePowered_released _ released).symm
    · rw [heard, State.echoStep_collides differs]
      exact (whilePowered_released _ released).symm
  case flow =>
    refine ⟨fun flow high flowing => ?_, fun flow low atLow told => ?_, LineState.flowAgain_settled,
      fun noFlow => LineState.flowAgain_leaves (.inr noFlow), LineState.flowAgain_leaves (.inl rfl)⟩
    · rw [LineState.flowAgain_high high, LineState.flowOnJoin_acts ⟨rfl, flow, high, flowing⟩]
    · rw [LineState.flowAgain_low low, LineState.flowOnFall_acts ⟨rfl, flow, atLow, told⟩]
  case breaks =>
    rw [exec_frameSent released flying sending, item]
    exact congrArg (fun x => Host.Outcome.next (s.withLine l x)) (LineState.holdAfterFlight_waiting waiting rfl)
  case retry =>
    have may : (!f.sending && (s.line l).mayRetry (s.lineActive l)) = true := by
      rcases ready with inactive | ready
      · simp [backoff, LineState.mayRetry, inactive]
      · simp [backoff, LineState.mayRetry, ready]
    refine (whilePowered_released _ released).trans (congrArg _ ?_)
    unfold State.retryStep
    dsimp only
    rw [flying]
    exact if_pos may

end Sys2Proof.Machine
end

section
/-! PROOFS. The transactions of the host and the commands that they stand for. -/

namespace Sys2Proof.Machine

/-! ## Numbers put together again from their bytes -/

theorem half_of_bytes (h : Half) : h.extractLsb' 8 8 ++ h.extractLsb' 0 8 = h := by
  refine BitVec.eq_of_getLsbD_eq fun i less => ?_
  rw [BitVec.getLsbD_append, BitVec.getLsbD_extractLsb', BitVec.getLsbD_extractLsb']
  by_cases low : i < 8
  · simp [low]
  · have high : i - 8 < 8 := by omega
    simp [low, high, Nat.add_sub_of_le (Nat.le_of_not_lt low)]

theorem tri_of_bytes (t : Tri) : t.extractLsb' 16 8 ++ t.extractLsb' 8 8 ++ t.extractLsb' 0 8 = t := by
  refine BitVec.eq_of_getLsbD_eq fun i less => ?_
  rw [BitVec.getLsbD_append, BitVec.getLsbD_append, BitVec.getLsbD_extractLsb', BitVec.getLsbD_extractLsb', BitVec.getLsbD_extractLsb']
  by_cases low : i < 8
  · simp [low]
  · by_cases middle : i - 8 < 8
    · simp [low, middle, Nat.add_sub_of_le (Nat.le_of_not_lt low)]
    · have high : i - 8 - 8 < 8 := by omega
      have place : 16 + (i - 8 - 8) = i := by omega
      simp [low, middle, high, place]

theorem handle_of_bytes (h : HandleArg) :
    ({ slot := h.slot.extractLsb' 8 8 ++ h.slot.extractLsb' 0 8, gen := h.gen } : HandleArg) = h := by
  rw [half_of_bytes]

theorem key_of_bytes (k : KeyArg) :
    ({ line := k.line, ident := k.ident.extractLsb' 16 8 ++ k.ident.extractLsb' 8 8 ++ k.ident.extractLsb' 0 8, selLen := k.selLen,
       selVal := k.selVal.extractLsb' 8 8 ++ k.selVal.extractLsb' 0 8 } : KeyArg) = k := by
  rw [tri_of_bytes, half_of_bytes]

theorem policy_of_bytes (p : PolicyArg) :
    ({ p with limit := p.limit.extractLsb' 8 8 ++ p.limit.extractLsb' 0 8,
              period := p.period.extractLsb' 8 8 ++ p.period.extractLsb' 0 8 } : PolicyArg) = p := by
  rw [half_of_bytes, half_of_bytes]

theorem classArg_of_bytes (a : ClassArg) :
    ({ a with compare := a.compare.extractLsb' 16 8 ++ a.compare.extractLsb' 8 8 ++ a.compare.extractLsb' 0 8,
              limit := a.limit.extractLsb' 8 8 ++ a.limit.extractLsb' 0 8 } : ClassArg) = a := by
  rw [tri_of_bytes, half_of_bytes]

/-! ## COMMAND transactions -/

/-- Bytes that are read back as their command, and whose count fits their type (R181). -/
def standsFor (bytes : List Byte) (c : Instr) : Prop := readTransaction bytes = some c ∧ fitsType bytes = true

/-- A COMMAND transaction stands for the command that its code and arguments are read as. -/
theorem standsFor_command {code : Byte} {args : List Byte} {c : Instr} (read : readCommand code args = some c)
    (length : argLength code = some args.length) : standsFor (0xA1 :: code :: args) c := by
  refine ⟨read, ?_⟩
  show (argLength code == some args.length) = true
  rw [length]
  exact beq_self_eq_true _

theorem standsFor_status {count : Nat} (fits : 1 ≤ count ∧ count ≤ 5) :
    standsFor (0xA0 :: List.replicate (count - 1) 0) (.status count) := by
  have length : (List.replicate (count - 1) (0 : Byte)).length ≤ 4 := by
    rw [List.length_replicate]
    omega
  refine ⟨(if_pos length).trans ?_, decide_eq_true length⟩
  rw [List.length_replicate, Nat.sub_add_cancel fits.1]

theorem standsFor_result {count : Nat} (fits : 2 ≤ count) : standsFor (0xA2 :: List.replicate (count - 1) 0) (.result count) := by
  have length : 1 ≤ (List.replicate (count - 1) (0 : Byte)).length := by
    rw [List.length_replicate]
    omega
  refine ⟨(if_pos length).trans ?_, decide_eq_true length⟩
  rw [List.length_replicate, Nat.sub_add_cancel (by omega)]

/-- Settles O55: each command by its code; its numbers of several bytes are put together again. -/
theorem transactionsStandForTheirCommands : Obligations.TransactionsStandForTheirCommands := by
  unfold Obligations.TransactionsStandForTheirCommands
  intro c bytes formed encoded
  show standsFor bytes c
  cases c with
  | status count => cases encoded; exact standsFor_status (by simpa [Instr.wellFormed] using formed)
  | result count => cases encoded; exact standsFor_result (by simpa [Instr.wellFormed] using formed)
  | create region key policy =>
    cases encoded
    exact standsFor_command (congrArg₂ (fun k p => some (Instr.create region k p)) (key_of_bytes key) (policy_of_bytes policy)) rfl
  | find key => cases encoded; exact standsFor_command (congrArg (fun k => some (Instr.find k)) (key_of_bytes key)) rfl
  | read handle => cases encoded; exact standsFor_command (congrArg (fun h => some (Instr.read h)) (handle_of_bytes handle)) rfl
  | write handle value now =>
    cases encoded
    exact standsFor_command (congrArg (fun h => some (Instr.write h value now)) (handle_of_bytes handle)) rfl
  | modify handle policy =>
    cases encoded
    exact standsFor_command (congrArg₂ (fun h p => some (Instr.modify h p)) (handle_of_bytes handle) (policy_of_bytes policy)) rfl
  | retire handle => cases encoded; exact standsFor_command (congrArg (fun h => some (Instr.retire h)) (handle_of_bytes handle)) rfl
  | hold handle limit => cases encoded; exact standsFor_command (congrArg (fun h => some (Instr.hold h limit)) (handle_of_bytes handle)) rfl
  | release handle choice =>
    cases encoded
    exact standsFor_command (congrArg (fun h => some (Instr.release h choice)) (handle_of_bytes handle)) rfl
  | setLayout bound learned exported =>
    cases encoded
    refine standsFor_command ?_ rfl
    have read : readCommand 0x18 (halfBytes bound ++ halfBytes learned ++ halfBytes exported) = some (.setLayout
      (bound.extractLsb' 8 8 ++ bound.extractLsb' 0 8) (learned.extractLsb' 8 8 ++ learned.extractLsb' 0 8)
      (exported.extractLsb' 8 8 ++ exported.extractLsb' 0 8)) := rfl
    rw [read, half_of_bytes, half_of_bytes, half_of_bytes]
  | purge regions line filter faultedToo => cases encoded; exact standsFor_command rfl rfl
  | setClass fields => cases encoded; exact standsFor_command (congrArg (fun a => some (Instr.setClass a)) (classArg_of_bytes fields)) rfl
  | setMask number mask => cases encoded; exact standsFor_command (congrArg (fun m => some (Instr.setMask number m)) (tri_of_bytes mask)) rfl
  | readClass copy number => cases encoded; exact standsFor_command rfl rfl
  | commitClasses => cases encoded; exact standsFor_command rfl rfl
  | setShares fieldShare sweepShare => cases encoded; exact standsFor_command rfl rfl
  | setLine fields => cases encoded; exact standsFor_command rfl rfl
  | readLine line => cases encoded; exact standsFor_command rfl rfl
  | readCounters line clear => cases encoded; exact standsFor_command rfl rfl
  | lineHold line duration restart =>
    cases encoded
    exact standsFor_command (congrArg (fun d => some (Instr.lineHold line d restart)) (half_of_bytes duration)) rfl
  | lineAbort line => cases encoded; exact standsFor_command rfl rfl
  | setTiming period expiry =>
    cases encoded
    exact standsFor_command (congrArg (fun x => some (Instr.setTiming period x)) (half_of_bytes expiry)) rfl
  | readTiming => cases encoded; exact standsFor_command rfl rfl
  | popNotice => cases encoded; exact standsFor_command rfl rfl
  | scanMissed start => cases encoded; exact standsFor_command (congrArg (fun x => some (Instr.scanMissed x)) (half_of_bytes start)) rfl
  | setNotice threshold holdOff => cases encoded; exact standsFor_command rfl rfl
  | setRoutes routes => cases encoded; exact standsFor_command rfl rfl
  | clearConditions flags => cases encoded; exact standsFor_command rfl rfl
  | readFault => cases encoded; exact standsFor_command rfl rfl
  | clearFault => cases encoded; exact standsFor_command rfl rfl
  | requestMode target => cases encoded; exact standsFor_command rfl rfl
  | reset => cases encoded; exact standsFor_command rfl rfl
  | _ => cases encoded

end Sys2Proof.Machine
end
